-- ==== Sys2Proof/Word.lean ====
section
/-!
DEFINITION. The widths of the values the hardware handles (spec/00_scope.md R5, R6): every value is an unsigned
integer of a stated width, and addition is modulo two to that width.
-/

namespace Sys2Proof

/-- `u8`: a message byte, a digest byte, an element of a block buffer. -/
abbrev Byte := BitVec 8

/-- `u32`: a word of a working digest (WORD = 32, R5). -/
abbrev Word := BitVec 32

/-- `u64`: WDATA, RDATA and the byte counter `TOTAL.alg` (R5). -/
abbrev DWord := BitVec 64

/-- The command word `CMD[15:0]` (CMD_WIDTH = 16, R5). -/
abbrev CmdWord := BitVec 16

end Sys2Proof
end

