-- ==== Sys2Proof/Syntax.lean ====
section
/-!
DEFINITION. The commands: one constructor for each of the 33 rows of spec/opcode_table.json (spec/30_encoding.md R53).

The one immediate, IMM8, is an unsigned byte and every value of it is an operand (R56), so the type admits no
ill-formed operand. WDATA is no part of the command word (R50, R60); a meaning reads it from the command port.
-/

namespace Sys2Proof

/-- The four contexts (R54; decision D4). -/
inductive Alg where
  | crc32
  | md5
  | sha1
  | sha256
deriving DecidableEq, Repr

/-- The 33 commands of R53. -/
inductive Instr where
  | nop
  | resetCrc32
  | resetMd5
  | resetSha1
  | resetSha256
  | processCrc32 (b : Byte)
  | processMd5 (b : Byte)
  | processSha1 (b : Byte)
  | processSha256 (b : Byte)
  | finalizeCrc32
  | finalizeMd5
  | finalizeSha1
  | finalizeSha256
  | rddigestCrc32 (idx : Byte)
  | rddigestMd5 (idx : Byte)
  | rddigestSha1 (idx : Byte)
  | rddigestSha256 (idx : Byte)
  | rdstatusCrc32
  | rdstatusMd5
  | rdstatusSha1
  | rdstatusSha256
  | rdcountMd5
  | rdcountSha1
  | rdcountSha256
  | bswap16
  | bswap32
  | bswap64
  | rotl16 (n : Byte)
  | rotl32 (n : Byte)
  | rotl64 (n : Byte)
  | rotr16 (n : Byte)
  | rotr32 (n : Byte)
  | rotr64 (n : Byte)
deriving DecidableEq, Repr

/-- The context a command's ALG field selects (R22, R54); NOP and the bit operations select none. -/
def Instr.alg : Instr → Option Alg
  | .nop => none
  | .resetCrc32 => some .crc32
  | .resetMd5 => some .md5
  | .resetSha1 => some .sha1
  | .resetSha256 => some .sha256
  | .processCrc32 _ => some .crc32
  | .processMd5 _ => some .md5
  | .processSha1 _ => some .sha1
  | .processSha256 _ => some .sha256
  | .finalizeCrc32 => some .crc32
  | .finalizeMd5 => some .md5
  | .finalizeSha1 => some .sha1
  | .finalizeSha256 => some .sha256
  | .rddigestCrc32 _ => some .crc32
  | .rddigestMd5 _ => some .md5
  | .rddigestSha1 _ => some .sha1
  | .rddigestSha256 _ => some .sha256
  | .rdstatusCrc32 => some .crc32
  | .rdstatusMd5 => some .md5
  | .rdstatusSha1 => some .sha1
  | .rdstatusSha256 => some .sha256
  | .rdcountMd5 => some .md5
  | .rdcountSha1 => some .sha1
  | .rdcountSha256 => some .sha256
  | .bswap16 => none
  | .bswap32 => none
  | .bswap64 => none
  | .rotl16 _ => none
  | .rotl32 _ => none
  | .rotl64 _ => none
  | .rotr16 _ => none
  | .rotr32 _ => none
  | .rotr64 _ => none

end Sys2Proof
end

