-- ==== Sys2Proof/Machine/Bits.lean ====
section
/-!
DEFINITION. Bit helpers: the fields of a command word (spec/30_encoding.md R52), rotation (spec/00_scope.md R7),
byte swap (spec/40_bitops.md R71 to R73), and the assembly of bytes into words and of words into bytes (R6).
-/

namespace Sys2Proof.Machine

/-! ## Fields of a command word (R52) -/

/-- `OP = CMD[15:12]`. -/
def opField (c : CmdWord) : BitVec 4 := c.extractLsb' 12 4

/-- `SEL = CMD[11:10]`: ALG for OP 1 to 6, WSEL for OP 8 to 10. -/
def selField (c : CmdWord) : BitVec 2 := c.extractLsb' 10 2

/-- `RSV = CMD[9:8]`. -/
def rsvField (c : CmdWord) : BitVec 2 := c.extractLsb' 8 2

/-- `IMM8 = CMD[7:0]`, the one immediate (R56). -/
def imm8Field (c : CmdWord) : Byte := c.extractLsb' 0 8

/-! ## Rotation (R7): the count is taken modulo the width -/

/-- `rotl_W(x, n)`. -/
def rotl {W : Nat} (x : BitVec W) (n : Nat) : BitVec W :=
  if n % W = 0 then x else (x <<< (n % W)) ||| (x >>> (W - n % W))

/-- `rotr_W(x, n)`. -/
def rotr {W : Nat} (x : BitVec W) (n : Nat) : BitVec W :=
  if n % W = 0 then x else (x >>> (n % W)) ||| (x <<< (W - n % W))

/-- `shr(x, n)`, the logical right shift of a word (R6). -/
def shr (x : Word) (n : Nat) : Word := x >>> n

/-! ## Byte swap -/

/-- R71: `x[7:0], x[15:8]`. -/
def byteSwap16 (x : BitVec 16) : BitVec 16 :=
  x.extractLsb' 0 8 ++ x.extractLsb' 8 8

/-- R72: `x[7:0], x[15:8], x[23:16], x[31:24]`. -/
def byteSwap32 (x : Word) : Word :=
  x.extractLsb' 0 8 ++ x.extractLsb' 8 8 ++ x.extractLsb' 16 8 ++ x.extractLsb' 24 8

/-- R73: the eight bytes from `x[7:0]` down to `x[63:56]`. -/
def byteSwap64 (x : DWord) : DWord :=
  x.extractLsb' 0 8 ++ x.extractLsb' 8 8 ++ x.extractLsb' 16 8 ++ x.extractLsb' 24 8 ++
    x.extractLsb' 32 8 ++ x.extractLsb' 40 8 ++ x.extractLsb' 48 8 ++ x.extractLsb' 56 8

/-! ## Bytes and words (R6) -/

/-- `be32(b0, b1, b2, b3)`: the first byte most significant. -/
def be32 (b0 b1 b2 b3 : Byte) : Word := b0 ++ b1 ++ b2 ++ b3

/-- `le32(b0, b1, b2, b3)`: the first byte least significant. -/
def le32 (b0 b1 b2 b3 : Byte) : Word := b3 ++ b2 ++ b1 ++ b0

/-- `bytes_be32(w)`. -/
def bytesBe32 (w : Word) : Vector Byte 4 :=
  #v[w.extractLsb' 24 8, w.extractLsb' 16 8, w.extractLsb' 8 8, w.extractLsb' 0 8]

/-- `bytes_le32(w)`. -/
def bytesLe32 (w : Word) : Vector Byte 4 :=
  #v[w.extractLsb' 0 8, w.extractLsb' 8 8, w.extractLsb' 16 8, w.extractLsb' 24 8]

/-- `bytes_be64(v)`: most significant byte first. -/
def bytesBe64 (v : DWord) : List Byte :=
  [v.extractLsb' 56 8, v.extractLsb' 48 8, v.extractLsb' 40 8, v.extractLsb' 32 8,
   v.extractLsb' 24 8, v.extractLsb' 16 8, v.extractLsb' 8 8, v.extractLsb' 0 8]

/-- `bytes_le64(v)`: least significant byte first. -/
def bytesLe64 (v : DWord) : List Byte :=
  [v.extractLsb' 0 8, v.extractLsb' 8 8, v.extractLsb' 16 8, v.extractLsb' 24 8,
   v.extractLsb' 32 8, v.extractLsb' 40 8, v.extractLsb' 48 8, v.extractLsb' 56 8]

/-- The sixteen words of a block, big-endian (R37, SHA-1 and SHA-256): word `j` is made of bytes `4j` to `4j+3`. -/
def wordsBe (block : List Byte) : List Word :=
  (List.range 16).map fun j =>
    be32 (block.getD (4 * j) 0) (block.getD (4 * j + 1) 0) (block.getD (4 * j + 2) 0) (block.getD (4 * j + 3) 0)

/-- The sixteen words of a block, little-endian (R37, MD5). -/
def wordsLe (block : List Byte) : List Word :=
  (List.range 16).map fun j =>
    le32 (block.getD (4 * j) 0) (block.getD (4 * j + 1) 0) (block.getD (4 * j + 2) 0) (block.getD (4 * j + 3) 0)

end Sys2Proof.Machine
end

