-- ==== Sys2Proof/WellFormed.lean ====
section
/-!
DEFINITION. When a command word is well formed: the six clauses by which spec/30_encoding.md R58 calls a word illegal,
one check each, written from R58's list and not from the opcode rows.

A term of `Instr` has no ill-formed operand (its immediate is a byte, R56), so the checks are on the word.
A digest index beyond the digest is no ill-formed word: it decodes and raises InvalidIndex when executed (R56).
-/

namespace Sys2Proof

open Machine

/-- The clauses of R58. -/
inductive IllegalReason where
  /-- "`OP` in {0x7, 0xB, 0xC, 0xD, 0xE, 0xF}". -/
  | reservedOp
  /-- "`RSV` (bits 9:8) not 0". -/
  | rsvNotZero
  /-- "`OP = 0x0` with `SEL` not 0". -/
  | nopSelNotZero
  /-- "`OP` in {0x0, 0x1, 0x3, 0x5, 0x6, 0x8} with `IMM8` not 0". -/
  | immNotZero
  /-- "`OP = 0x6` with `SEL = 0`": RDCOUNT of the CRC32 context, which has no counter. -/
  | rdcountOfCrc32
  /-- "`OP` in {0x8, 0x9, 0xA} with `SEL = 0`". -/
  | wselZero
deriving DecidableEq, Repr

/-- Whether a clause of R58 applies to a command word. -/
def IllegalReason.holds : IllegalReason → CmdWord → Bool
  | .reservedOp, c => [0x7#4, 0xB#4, 0xC#4, 0xD#4, 0xE#4, 0xF#4].contains (opField c)
  | .rsvNotZero, c => rsvField c != 0
  | .nopSelNotZero, c => opField c == 0 && selField c != 0
  | .immNotZero, c => [0x0#4, 0x1#4, 0x3#4, 0x5#4, 0x6#4, 0x8#4].contains (opField c) && imm8Field c != 0
  | .rdcountOfCrc32, c => opField c == 0x6 && selField c == 0
  | .wselZero, c => [0x8#4, 0x9#4, 0xA#4].contains (opField c) && selField c == 0

/-- The clauses, in the order R58 lists them. -/
def IllegalReason.all : List IllegalReason :=
  [.reservedOp, .rsvNotZero, .nopSelNotZero, .immNotZero, .rdcountOfCrc32, .wselZero]

/-- A command word is well formed when no clause of R58 applies to it. -/
def wellFormedWord (c : CmdWord) : Bool := !(IllegalReason.all.any fun r => r.holds c)

end Sys2Proof
end

