-- ==== Sys2Proof/Decode.lean ====
section
/-!
DEFINITION. The decoder (spec/30_encoding.md R53, R59), total on every 16-bit word, and the encoder.

Decoding tests the rows of R53; a word that selects no row is rejected with the clause of R58 it falls under (the
hardware itself reports InvalidCommand and nothing more, log 10). Decoding never depends on state.
-/

namespace Sys2Proof

open Machine

/-! ## The opcode rows of R53 -/

/-- One row of R53: a word `c` selects it when `c & mask = pat`. -/
structure Row where
  pat : CmdWord
  mask : CmdWord
  /-- The command, from IMM8 (R59: `IMM8 = CMD[7:0]`). -/
  command : Byte → Instr

/-- R53: a word selects a row. -/
def Row.selects (r : Row) (c : CmdWord) : Bool := (c &&& r.mask) == r.pat

/-- A row of the command without an immediate: all sixteen bits fixed. -/
def fixedRow (pat : CmdWord) (i : Instr) : Row := ⟨pat, 0xFFFF, fun _ => i⟩

/-- A row of a command whose IMM8 is an operand: bits 15:8 fixed. -/
def immRow (pat : CmdWord) (command : Byte → Instr) : Row := ⟨pat, 0xFF00, command⟩

def contextRows : List Row :=
  [fixedRow 0x0000 .nop,
   fixedRow 0x1000 .resetCrc32, fixedRow 0x1400 .resetMd5, fixedRow 0x1800 .resetSha1, fixedRow 0x1C00 .resetSha256,
   immRow 0x2000 .processCrc32, immRow 0x2400 .processMd5, immRow 0x2800 .processSha1, immRow 0x2C00 .processSha256,
   fixedRow 0x3000 .finalizeCrc32, fixedRow 0x3400 .finalizeMd5, fixedRow 0x3800 .finalizeSha1,
   fixedRow 0x3C00 .finalizeSha256]

def readRows : List Row :=
  [immRow 0x4000 .rddigestCrc32, immRow 0x4400 .rddigestMd5, immRow 0x4800 .rddigestSha1, immRow 0x4C00 .rddigestSha256,
   fixedRow 0x5000 .rdstatusCrc32, fixedRow 0x5400 .rdstatusMd5, fixedRow 0x5800 .rdstatusSha1,
   fixedRow 0x5C00 .rdstatusSha256,
   fixedRow 0x6400 .rdcountMd5, fixedRow 0x6800 .rdcountSha1, fixedRow 0x6C00 .rdcountSha256]

def bitOpRows : List Row :=
  [fixedRow 0x8400 .bswap16, fixedRow 0x8800 .bswap32, fixedRow 0x8C00 .bswap64,
   immRow 0x9400 .rotl16, immRow 0x9800 .rotl32, immRow 0x9C00 .rotl64,
   immRow 0xA400 .rotr16, immRow 0xA800 .rotr32, immRow 0xAC00 .rotr64]

/-- The 33 rows. -/
def opcodeRows : List Row := contextRows ++ readRows ++ bitOpRows

/-! ## Decoding -/

/-- The clause of R58 reported for a word that selects no row: the first of these that applies. -/
def illegalReason (c : CmdWord) : IllegalReason :=
  if IllegalReason.rsvNotZero.holds c then .rsvNotZero
  else if IllegalReason.reservedOp.holds c then .reservedOp
  else if IllegalReason.nopSelNotZero.holds c then .nopSelNotZero
  else if IllegalReason.rdcountOfCrc32.holds c then .rdcountOfCrc32
  else if IllegalReason.immNotZero.holds c then .immNotZero
  else .wselZero

/-- R59: "test the rows of rule R53 in any order (they do not overlap); the one that matches gives the command and its
fields (`IMM8 = CMD[7:0]`); if none matches the word is illegal." -/
def decode (c : CmdWord) : Except IllegalReason Instr :=
  match opcodeRows.find? (fun r => r.selects c) with
  | some r => .ok (r.command (imm8Field c))
  | none => .error (illegalReason c)

/-! ## Encoding -/

/-- A command word from bits 15:8 and IMM8. -/
def withImm (pat : CmdWord) (imm : Byte) : CmdWord := pat ||| imm.setWidth 16

/-- The command word of a command, from the "match" column of R53 and the IMM8 field of R52. -/
def encode : Instr → CmdWord
  | .nop => 0x0000
  | .resetCrc32 => 0x1000
  | .resetMd5 => 0x1400
  | .resetSha1 => 0x1800
  | .resetSha256 => 0x1C00
  | .processCrc32 b => withImm 0x2000 b
  | .processMd5 b => withImm 0x2400 b
  | .processSha1 b => withImm 0x2800 b
  | .processSha256 b => withImm 0x2C00 b
  | .finalizeCrc32 => 0x3000
  | .finalizeMd5 => 0x3400
  | .finalizeSha1 => 0x3800
  | .finalizeSha256 => 0x3C00
  | .rddigestCrc32 idx => withImm 0x4000 idx
  | .rddigestMd5 idx => withImm 0x4400 idx
  | .rddigestSha1 idx => withImm 0x4800 idx
  | .rddigestSha256 idx => withImm 0x4C00 idx
  | .rdstatusCrc32 => 0x5000
  | .rdstatusMd5 => 0x5400
  | .rdstatusSha1 => 0x5800
  | .rdstatusSha256 => 0x5C00
  | .rdcountMd5 => 0x6400
  | .rdcountSha1 => 0x6800
  | .rdcountSha256 => 0x6C00
  | .bswap16 => 0x8400
  | .bswap32 => 0x8800
  | .bswap64 => 0x8C00
  | .rotl16 n => withImm 0x9400 n
  | .rotl32 n => withImm 0x9800 n
  | .rotl64 n => withImm 0x9C00 n
  | .rotr16 n => withImm 0xA400 n
  | .rotr32 n => withImm 0xA800 n
  | .rotr64 n => withImm 0xAC00 n

/-! ## The host's numbering of an instruction's bits -/

/-- `CMD` of a number of `nbits` bits: its low sixteen bits (the table gives every row sixteen; log 11). -/
def tableCmd (nbits w : Nat) : CmdWord := BitVec.ofNat 16 (w % 2 ^ nbits)

/-- The operand beside the command word, were the number to have bits above the sixteen of CMD: WDATA from bit 16 up
(log 11). The table gives no row such bits, so it is zero. -/
def tableWdata (nbits w : Nat) : DWord := BitVec.ofNat 64 (w % 2 ^ nbits / 2 ^ 16)

/-- What the decoder reads from a word numbered as spec/opcode_table.json numbers it. -/
def decodeTableWord (nbits w : Nat) : Option Instr := (decode (tableCmd nbits w)).toOption

end Sys2Proof
end

