-- ==== Sys2Proof/Config.lean ====
section
/-!
DEFINITION. What is fixed for one machine (spec/00_scope.md R5).

Every parameter of R5 but two has a fixed value and appears as that value where it is used. The two OPEN ones:
`MD5_LENGTH_BIG_ENDIAN` is the field below, and `CMD_LATENCY` has no meaning in a model without time (R248; log 12).
The spec leaves no value undefined (spec/93_implementation_defined.md Part 1), so there is no opaque free value here.
-/

namespace Sys2Proof

/-- The configuration of a machine. It is carried in `State.cfg`, and no step writes it (log 4). -/
structure Config where
  /-- `MD5_LENGTH_BIG_ENDIAN` (R5, R38; decision D14): the byte order of the MD5 length field. -/
  md5LengthBigEndian : Bool
deriving DecidableEq, Repr

/-- The parameter's default (R5: "false (default)"). -/
def Config.default : Config := ⟨false⟩

end Sys2Proof
end

