-- ==== Sys2Proof/Machine/State.lean ====
section
/-!
DEFINITION. The state of the machine, as plain data (spec/10_state.md R10 to R24), and its reset value (R21, R240).

`State.ctx` is the architectural state of R10, "exactly the following, and nothing else". `State.cfg` is the parameter of
R5. `State.port` is the command port (spec/30_encoding.md R50): it holds no hardware state (R19), only what the host
sends and what it got back.
-/

namespace Sys2Proof.Machine

/-! ## Why a step can stop -/

/-- The faults that stop the machine. There is none: the hardware reports its three errors in the response and goes on
(R210, R211, R215), and no command can form an address that does not exist (log 6, log 9). -/
inductive Fault where
deriving DecidableEq, Repr

/-- Why an instruction has no meaning in the model. -/
inductive Refusal where
  /-- Raised by an arm of `exec` whose instruction has no meaning yet; safe. No arm of this model is refused. -/
  | notModelled (mnemonic : String)
deriving DecidableEq, Repr

/-! ## Errors -/

/-- The values of `ERR` (R210). -/
inductive Err where
  /-- The command completed. -/
  | ok
  /-- PROCESS or FINALIZE of a finalised context, RDDIGEST of one that is not. -/
  | invalidState
  /-- A command word that selects no row of R53. -/
  | invalidCommand
  /-- RDDIGEST with an index beyond the digest. -/
  | invalidIndex
deriving DecidableEq, Repr

/-! ## The contexts (R10) -/

/-- A block buffer: the bytes at addresses 0 to 63 (R31), as the list of those that are not 0x00, addresses rising.
An address that is not listed reads as 0x00, the reset contents R21 gives (log 5). -/
abbrev Memory := List Host.Cell

/-- The context CRC32 (R10, R172). -/
structure Crc32Context where
  /-- `CRC`. -/
  crc : Word
  /-- `DONE.CRC32` (R13). -/
  done : Bool
deriving DecidableEq, Repr

/-- A hash context with `n` words of working digest (R10). -/
structure HashContext (n : Nat) where
  /-- `H.alg[0..n-1]`. -/
  h : Vector Word n
  /-- `BUF.alg[0..63]`. -/
  buf : Memory
  /-- `TAIL.alg` (R14). -/
  tail : BitVec 6
  /-- `TOTAL.alg` (R15). -/
  total : DWord
  /-- `DONE.alg` (R13). -/
  done : Bool
deriving DecidableEq, Repr

/-- The architectural state: four contexts that share nothing (R10, R22). NWORDS is 4, 5 and 8 (R5). -/
structure Contexts where
  crc32 : Crc32Context
  md5 : HashContext 4
  sha1 : HashContext 5
  sha256 : HashContext 8
deriving DecidableEq, Repr

/-! ## The command port (R50) -/

/-- What the host does next at the port. -/
inductive HostInput where
  /-- It issues a command: `CMD[15:0]` and `WDATA[63:0]` (R50). -/
  | command (cmd : CmdWord) (wdata : DWord)
  /-- It asserts hardware reset (R240). -/
  | hardwareReset
deriving DecidableEq, Repr

/-- A response: `RDATA[63:0]` and `ERR[1:0]` (R50). -/
structure Response where
  rdata : DWord
  err : BitVec 2
deriving DecidableEq, Repr

/-- The port. -/
structure Port where
  /-- WDATA of the command being executed (R50); the step writes it before the command runs (log 3). -/
  wdata : DWord
  /-- What the host is still going to do, oldest first (R12, R249; log 1). -/
  inputs : List HostInput
  /-- The responses returned so far, oldest first (R249; log 2). -/
  responses : List Response
deriving DecidableEq, Repr

/-- The state of the machine. -/
structure State where
  cfg : Config
  ctx : Contexts
  port : Port
deriving DecidableEq, Repr

/-! ## Reset (R21, R240) -/

/-- A hash context right after hardware reset or RESET.alg (R21): the initial constants, an empty buffer of zeros, a
zero tail, a zero count, not finalised. -/
def HashContext.reset {n : Nat} (init : Vector Word n) : HashContext n :=
  { h := init, buf := [], tail := 0, total := 0, done := false }

/-- The context CRC32 right after hardware reset or RESET.CRC32 (R21, R173). -/
def Crc32Context.reset : Crc32Context := { crc := crcInit, done := false }

/-- All four contexts in the constructed state (R21, R240). -/
def Contexts.reset : Contexts :=
  { crc32 := Crc32Context.reset
    md5 := HashContext.reset initMd5
    sha1 := HashContext.reset initSha1
    sha256 := HashContext.reset initSha256 }

/-- The machine right after reset: the contexts of R21, the default parameter (R5), nothing issued and nothing answered
(log 1, log 2, log 3, log 7). -/
def State.reset : State :=
  { cfg := Config.default
    ctx := Contexts.reset
    port := { wdata := 0, inputs := [], responses := [] } }

end Sys2Proof.Machine
end

