-- ==== Sys2Proof/Machine/Ops.lean ====
section
/-!
DEFINITION. The named operations over the buffers, the contexts and the command port, and raising an error.
-/

namespace Sys2Proof.Machine

/-! ## Block buffers (spec/00_scope.md R8: MemRead, MemWrite) -/

/-- A buffer whose every byte is 0x00: `MemWrite(BUF, 0, 64, [0x00 repeated 64 times])` (R91, R92). -/
def Memory.zeroed : Memory := []

/-- The byte at an address. -/
def Memory.read : Memory → Nat → Byte
  | [], _ => 0
  | (x, v) :: m, a => if x = a then v else Memory.read m a

/-- A cell put in its place among cells with rising addresses. -/
def Memory.place : Memory → Nat → Byte → Memory
  | [], a, b => [(a, b)]
  | (x, v) :: m, a, b => if a < x then (a, b) :: (x, v) :: m else (x, v) :: Memory.place m a b

/-- `MemWrite(space, a, 1, [b])`: the old cell goes, and a byte that is not 0x00 is listed. -/
def Memory.write (m : Memory) (a : Nat) (b : Byte) : Memory :=
  if b = 0 then m.filter (fun c => c.1 != a) else Memory.place (m.filter (fun c => c.1 != a)) a b

/-- `MemRead(space, a, n)`: the `n` bytes from address `a` up. -/
def Memory.readBytes (m : Memory) (a n : Nat) : List Byte :=
  (List.range n).map fun k => Memory.read m (a + k)

/-- `MemWrite(space, a, n, bytes)`: the bytes from address `a` up. -/
def Memory.writeBytes : Memory → Nat → List Byte → Memory
  | m, _, [] => m
  | m, a, b :: bs => Memory.writeBytes (Memory.write m a b) (a + 1) bs

/-- The canonical form: addresses strictly rising, and no cell that holds what an unlisted address reads as. -/
def Memory.wf : Memory → Bool
  | [] => true
  | [(_, v)] => v != 0
  | (x, v) :: (y, u) :: m => decide (x < y) && v != 0 && Memory.wf ((y, u) :: m)

/-- Every listed address is one of the 64 of a block buffer (R31). -/
def Memory.inBlock (m : Memory) : Bool := m.all fun c => decide (c.1 < 64)

/-! ## Writing one context (R22: a command writes no other) -/

def State.withCrc32 (s : State) (c : Crc32Context) : State := { s with ctx := { s.ctx with crc32 := c } }

def State.withMd5 (s : State) (c : HashContext 4) : State := { s with ctx := { s.ctx with md5 := c } }

def State.withSha1 (s : State) (c : HashContext 5) : State := { s with ctx := { s.ctx with sha1 := c } }

def State.withSha256 (s : State) (c : HashContext 8) : State := { s with ctx := { s.ctx with sha256 := c } }

/-! ## The response (R50, R57, R210) -/

/-- The code of a value of ERR (R210). -/
def Err.code : Err → BitVec 2
  | .ok => 0
  | .invalidState => 1
  | .invalidCommand => 2
  | .invalidIndex => 3

/-- The state once the port has returned a response. -/
def State.answered (s : State) (rdata : DWord) (e : Err) : State :=
  { s with port := { s.port with responses := s.port.responses ++ [{ rdata := rdata, err := e.code }] } }

/-- A command ends with `RDATA = rdata` and `ERR = 0` (R8, R57). -/
def respond (rdata : DWord) (s : State) : Host.Outcome State Fault Refusal :=
  .next (s.answered rdata .ok)

/-- Taking an exception, the one operation of it (R8, R211, R215): the response carries the code of the error and
`RDATA = 0`; nothing is saved, no mode and no mask changes, control goes nowhere, and no state is written. There is no
return from it: the hardware has no trap-return command (R216), and the next command runs as any other. -/
def raise (e : Err) (s : State) : Host.Outcome State Fault Refusal :=
  .next (s.answered 0 e)

/-- The end of a command that writes a context: its checks come before its first write (R211), so it either raises an
error or puts the new context in place and answers with `RDATA = 0` (R57). -/
def finishWrite {α : Type} (put : State → α → State) (r : Except Err α) (s : State) :
    Host.Outcome State Fault Refusal :=
  match r with
  | .ok c => respond 0 (put s c)
  | .error e => raise e s

/-- The end of a command that returns a value and writes nothing: an error or the value. -/
def finishRead (r : Except Err DWord) (s : State) : Host.Outcome State Fault Refusal :=
  match r with
  | .ok v => respond v s
  | .error e => raise e s

/-! ## The host's side of the port -/

/-- The next thing the host does, and the state with it taken from the list. -/
def fetch (s : State) : Option (HostInput × State) :=
  match s.port.inputs with
  | [] => none
  | x :: rest => some (x, { s with port := { s.port with inputs := rest } })

/-- WDATA as the host drives it beside a command (R50). -/
def State.withWdata (s : State) (w : DWord) : State := { s with port := { s.port with wdata := w } }

/-- The host issues one more thing before all it was going to do. -/
def State.issueFirst (s : State) (x : HostInput) : State :=
  { s with port := { s.port with inputs := x :: s.port.inputs } }

/-- Hardware reset: all four contexts in the constructed state at once, and no response (R240). The parameter is fixed
(R5), and what the host has seen and will do is the host's (log 8). -/
def hardwareReset (s : State) : Host.Outcome State Fault Refusal :=
  .next { s with ctx := Contexts.reset }

/-- No command in progress: the hardware is idle and does nothing on its own (R223, R249). -/
def idle (s : State) : Host.Outcome State Fault Refusal := .next s

end Sys2Proof.Machine
end

