-- ==== Sys2Proof/Machine/Operands.lean ====
section
/-!
DEFINITION. The operand forms (spec/30_encoding.md R56) and the form of a result (R57). IMM8 comes with the
instruction; WDATA stands on the command port.
-/

namespace Sys2Proof.Machine

/-- `WDATA[15:0]`; the bits above are ignored (R56). -/
def operand16 (s : State) : BitVec 16 := s.port.wdata.extractLsb' 0 16

/-- `WDATA[31:0]`; the bits above are ignored (R56). -/
def operand32 (s : State) : BitVec 32 := s.port.wdata.extractLsb' 0 32

/-- `WDATA[63:0]` (R56). -/
def operand64 (s : State) : BitVec 64 := s.port.wdata

/-- `zext_64` of a result (R57). -/
def zext64 {w : Nat} (x : BitVec w) : DWord := x.setWidth 64

/-- A rotate count: IMM8 as a number 0 to 255 (R56). -/
def rotateCount (imm : Byte) : Nat := imm.toNat

/-- A digest byte index: IMM8 as a number 0 to 255 (R56). -/
def digestIndex (imm : Byte) : Nat := imm.toNat

end Sys2Proof.Machine
end

