-- ==== Sys2Proof/Machine/BitOps.lean ====
section
/-!
DEFINITION. The byte-swap and rotate commands (spec/40_bitops.md R70 to R79): pure functions of WDATA and IMM8, which
read and write no context.
-/

namespace Sys2Proof.Machine

/-- BSWAP16 (R71). -/
def execBswap16 (s : State) : Host.Outcome State Fault Refusal := respond (zext64 (byteSwap16 (operand16 s))) s

/-- BSWAP32 (R72). -/
def execBswap32 (s : State) : Host.Outcome State Fault Refusal := respond (zext64 (byteSwap32 (operand32 s))) s

/-- BSWAP64 (R73). -/
def execBswap64 (s : State) : Host.Outcome State Fault Refusal := respond (zext64 (byteSwap64 (operand64 s))) s

/-- ROTL16 (R74). -/
def execRotl16 (n : Byte) (s : State) : Host.Outcome State Fault Refusal :=
  respond (zext64 (rotl (operand16 s) (rotateCount n))) s

/-- ROTL32 (R75). -/
def execRotl32 (n : Byte) (s : State) : Host.Outcome State Fault Refusal :=
  respond (zext64 (rotl (operand32 s) (rotateCount n))) s

/-- ROTL64 (R76). -/
def execRotl64 (n : Byte) (s : State) : Host.Outcome State Fault Refusal :=
  respond (zext64 (rotl (operand64 s) (rotateCount n))) s

/-- ROTR16 (R77). -/
def execRotr16 (n : Byte) (s : State) : Host.Outcome State Fault Refusal :=
  respond (zext64 (rotr (operand16 s) (rotateCount n))) s

/-- ROTR32 (R78). -/
def execRotr32 (n : Byte) (s : State) : Host.Outcome State Fault Refusal :=
  respond (zext64 (rotr (operand32 s) (rotateCount n))) s

/-- ROTR64 (R79). -/
def execRotr64 (n : Byte) (s : State) : Host.Outcome State Fault Refusal :=
  respond (zext64 (rotr (operand64 s) (rotateCount n))) s

end Sys2Proof.Machine
end

