-- ==== Sys2Proof/Machine/Flags.lean ====
section
/-!
DEFINITION. The flags of the hardware are the four `DONE.alg` bits (spec/10_state.md R13), and no command writes one as a
side effect. Here: the checks on them, in the order of R213, and the status word (spec/46_status.md R191).
-/

namespace Sys2Proof.Machine

/-- `if DONE = 1 then raise InvalidState`, the check of PROCESS and FINALIZE (R92, R94, R174, R175). -/
def unlessDone {α : Type} (done : Bool) (r : α) : Except Err α :=
  if done then .error .invalidState else .ok r

/-- The status word: DONE in bit 0, TAIL in bits 13:8, all other bits 0 (R191). -/
def statusWord (tail : BitVec 6) (done : Bool) : DWord :=
  (zext64 tail <<< 8) ||| zext64 (BitVec.ofBool done)

end Sys2Proof.Machine
end

