-- ==== Sys2Proof/Machine/Crc32.lean ====
section
/-!
DEFINITION. The CRC-32 generator and the commands of the CRC32 context (spec/45_crc32.md R170 to R179).
-/

namespace Sys2Proof.Machine

/-- `CRC_TABLE[i]`, for an index `i` below 256 (R30). -/
def crcTableAt (i : Nat) : Word := crcTable.getD i 0

/-- `CrcStep(crc, b)` (R171). -/
def crcStep (crc : Word) (b : Byte) : Word :=
  shr crc 8 ^^^ crcTableAt ((crc ^^^ b.setWidth 32) &&& 0xFF).toNat

/-- RESET.CRC32 (R173). -/
def execResetCrc32 (s : State) : Host.Outcome State Fault Refusal :=
  respond 0 (s.withCrc32 Crc32Context.reset)

/-- PROCESS.CRC32 (R174). -/
def execProcessCrc32 (b : Byte) (s : State) : Host.Outcome State Fault Refusal :=
  finishWrite State.withCrc32
    (unlessDone s.ctx.crc32.done { s.ctx.crc32 with crc := crcStep s.ctx.crc32.crc b }) s

/-- FINALIZE.CRC32 (R175). -/
def execFinalizeCrc32 (s : State) : Host.Outcome State Fault Refusal :=
  finishWrite State.withCrc32
    (unlessDone s.ctx.crc32.done { crc := s.ctx.crc32.crc ^^^ crcXorOut, done := true }) s

/-- The digest byte of R176: byte `idx` of `bytes_be32(CRC)`, InvalidState before InvalidIndex (R213). -/
def readCrcDigest (imm : Byte) (c : Crc32Context) : Except Err DWord :=
  if c.done then
    if h : digestIndex imm < 4 then .ok (zext64 ((bytesBe32 c.crc)[digestIndex imm]))
    else .error .invalidIndex
  else .error .invalidState

/-- RDDIGEST.CRC32 (R176, R177). -/
def execRddigestCrc32 (idx : Byte) (s : State) : Host.Outcome State Fault Refusal :=
  finishRead (readCrcDigest idx s.ctx.crc32) s

end Sys2Proof.Machine
end

