-- ==== Sys2Proof/Machine/BlockBuffer.lean ====
section
/-!
DEFINITION. The block buffer with padding and length encoding (spec/41_block_buffer.md R90 to R99): one engine,
instantiated once for each hash context with the parameters of R90.
-/

namespace Sys2Proof.Machine

/-- The parameters of an instance of the engine with `n` words of digest (R90). -/
structure Engine (n : Nat) where
  /-- `INIT.alg` (R21). -/
  init : Vector Word n
  /-- `Compress_alg(h, block)`. -/
  compress : Vector Word n → List Byte → Vector Word n
  /-- `len_bytes(L)` (R38). -/
  lenBytes : DWord → List Byte
  /-- `word_bytes(w)` (R39). -/
  wordBytes : Word → Vector Byte 4

variable {n : Nat}

/-- `Engine_Reset(alg)` (R91). -/
def engineReset (e : Engine n) : HashContext n := HashContext.reset e.init

/-! ## Absorbing one byte (R92) -/

/-- The buffer with the byte at address TAIL. -/
def absorbBuf (c : HashContext n) (b : Byte) : Memory := Memory.write c.buf c.tail.toNat b

/-- R92 past its check: the byte fills the buffer and the block is compressed at once (R93), or it is buffered. -/
def absorb (e : Engine n) (b : Byte) (c : HashContext n) : HashContext n :=
  if c.tail = 63 then
    { c with
      h := e.compress c.h (Memory.readBytes (absorbBuf c b) 0 64)
      total := c.total + 64
      tail := 0
      buf := Memory.zeroed }
  else
    { c with buf := absorbBuf c b, tail := c.tail + 1 }

/-- `Engine_Absorb(alg, b)` (R92). -/
def engineAbsorb (e : Engine n) (b : Byte) (c : HashContext n) : Except Err (HashContext n) :=
  unlessDone c.done (absorb e b c)

/-! ## Finalising (R94) -/

/-- The message length in bytes, `TOTAL +64 TAIL`. -/
def messageBytes (c : HashContext n) : DWord := c.total + c.tail.setWidth 64

/-- The message length in bits, `L = (n * 8) mod 2^64` (R81, R96). -/
def messageBits (c : HashContext n) : DWord := messageBytes c * 8

/-- The buffer with 0x80 at address TAIL and 0x00 from there to its end. -/
def padBuf (c : HashContext n) : Memory :=
  Memory.writeBytes (Memory.write c.buf c.tail.toNat 0x80) (c.tail.toNat + 1) (List.replicate (63 - c.tail.toNat) 0)

/-- The working digest and the buffer before the length field is written: with fewer than eight bytes left after the
0x80 (TAIL 56 or more) the padded block is compressed and an all-zero one started (R94, R95). -/
def padded (e : Engine n) (c : HashContext n) : Vector Word n × Memory :=
  if 56 ≤ c.tail.toNat then (e.compress c.h (Memory.readBytes (padBuf c) 0 64), Memory.zeroed)
  else (c.h, padBuf c)

/-- The last block: the length field at addresses 56 to 63 (R32, R96). -/
def lastBuf (e : Engine n) (c : HashContext n) : Memory :=
  Memory.writeBytes (padded e c).2 56 (e.lenBytes (messageBits c))

/-- R94 past its check. -/
def finish (e : Engine n) (c : HashContext n) : HashContext n :=
  { h := e.compress (padded e c).1 (Memory.readBytes (lastBuf e c) 0 64)
    buf := lastBuf e c
    tail := 0
    total := messageBytes c
    done := true }

/-- `Engine_Finalize(alg)` (R94). -/
def engineFinalize (e : Engine n) (c : HashContext n) : Except Err (HashContext n) :=
  unlessDone c.done (finish e c)

/-! ## Reading the digest (R97) -/

/-- `Engine_ReadDigest(alg, idx)` (R97): InvalidState comes before InvalidIndex (R213). DIGEST_SIZE is four bytes a word,
16, 20 and 32 (R5). -/
def engineReadDigest (e : Engine n) (imm : Byte) (c : HashContext n) : Except Err DWord :=
  if c.done then
    if h : digestIndex imm < 4 * n then
      .ok (zext64 ((e.wordBytes (c.h[digestIndex imm / 4]'(by omega)))[digestIndex imm % 4]'(Nat.mod_lt _ (by decide))))
    else .error .invalidIndex
  else .error .invalidState

end Sys2Proof.Machine
end

