-- ==== Sys2Proof/Machine/Md5.lean ====
section
/-!
DEFINITION. The MD5 compression core and the commands of the MD5 context (spec/42_md5.md R110 to R118).
-/

namespace Sys2Proof.Machine

/-- `f_MD5(i, b, c, d)` (R111). -/
def fMd5 (i : Nat) (b c d : Word) : Word :=
  if i < 16 then (b &&& c) ||| (~~~b &&& d)
  else if i < 32 then (b &&& d) ||| (c &&& ~~~d)
  else if i < 48 then b ^^^ c ^^^ d
  else c ^^^ (b ||| ~~~d)

/-- `g_MD5(i)` (R111). -/
def gMd5 (i : Nat) : Nat :=
  if i < 16 then i
  else if i < 32 then (5 * i + 1) % 16
  else if i < 48 then (3 * i + 5) % 16
  else (7 * i) % 16

/-- The working variables of R112. -/
structure Md5Vars where
  a : Word
  b : Word
  c : Word
  d : Word
deriving DecidableEq, Repr

/-- Round `i` of R112 on message words `m`. -/
def md5Round (m : List Word) (v : Md5Vars) (i : Nat) : Md5Vars :=
  { a := v.d
    b := v.b + rotl (v.a + fMd5 i v.b v.c v.d + kMd5 i + m.getD (gMd5 i) 0) (sMd5 i)
    c := v.b
    d := v.c }

/-- The working variables after the first `k` rounds. -/
def md5Rounds (m : List Word) (v : Md5Vars) (k : Nat) : Md5Vars := (List.range k).foldl (md5Round m) v

/-- The working variables at the start (R112). -/
def md5Start (h : Vector Word 4) : Md5Vars := { a := h[0], b := h[1], c := h[2], d := h[3] }

/-- `Compress_MD5(h, B)` (R112). -/
def compressMd5 (h : Vector Word 4) (block : List Byte) : Vector Word 4 :=
  let v := md5Rounds (wordsLe block) (md5Start h) 64
  #v[h[0] + v.a, h[1] + v.b, h[2] + v.c, h[3] + v.d]

/-- `len_bytes(L)` of MD5 (R38, R90, R115): little-endian unless `MD5_LENGTH_BIG_ENDIAN` (log 4). -/
def lenBytesMd5 (cfg : Config) (l : DWord) : List Byte :=
  if cfg.md5LengthBigEndian then bytesBe64 l else bytesLe64 l

/-- The MD5 instance of the engine (R90). -/
def md5Engine (cfg : Config) : Engine 4 :=
  { init := initMd5, compress := compressMd5, lenBytes := lenBytesMd5 cfg, wordBytes := bytesLe32 }

/-- RESET.MD5 (R113). -/
def execResetMd5 (s : State) : Host.Outcome State Fault Refusal :=
  respond 0 (s.withMd5 (engineReset (md5Engine s.cfg)))

/-- PROCESS.MD5 (R114). -/
def execProcessMd5 (b : Byte) (s : State) : Host.Outcome State Fault Refusal :=
  finishWrite State.withMd5 (engineAbsorb (md5Engine s.cfg) b s.ctx.md5) s

/-- FINALIZE.MD5 (R115). -/
def execFinalizeMd5 (s : State) : Host.Outcome State Fault Refusal :=
  finishWrite State.withMd5 (engineFinalize (md5Engine s.cfg) s.ctx.md5) s

/-- RDDIGEST.MD5 (R116). -/
def execRddigestMd5 (idx : Byte) (s : State) : Host.Outcome State Fault Refusal :=
  finishRead (engineReadDigest (md5Engine s.cfg) idx s.ctx.md5) s

end Sys2Proof.Machine
end

