-- ==== Sys2Proof/Machine/Sha1.lean ====
section
/-!
DEFINITION. The SHA-1 compression core and the commands of the SHA1 context (spec/43_sha1.md R130 to R137).
-/

namespace Sys2Proof.Machine

/-- `f_SHA1(i, b, c, d)` (R131). -/
def fSha1 (i : Nat) (b c d : Word) : Word :=
  if i < 20 then (b &&& c) ||| (~~~b &&& d)
  else if i < 40 then b ^^^ c ^^^ d
  else if i < 60 then (b &&& c) ||| (b &&& d) ||| (c &&& d)
  else b ^^^ c ^^^ d

/-- The schedule of R132 grown by `k` words, newest first: of `w[i-1], w[i-2], …` the words `w[i-3]`, `w[i-8]`, `w[i-14]`
and `w[i-16]` stand at places 2, 7, 13 and 15. -/
def sha1Extend : Nat → List Word → List Word
  | 0, w => w
  | k + 1, w => sha1Extend k (rotl (w.getD 2 0 ^^^ w.getD 7 0 ^^^ w.getD 13 0 ^^^ w.getD 15 0) 1 :: w)

/-- `w[0..79]` (R132). -/
def sha1Schedule (block : List Byte) : List Word := (sha1Extend 64 (wordsBe block).reverse).reverse

/-- The working variables of R132. -/
structure Sha1Vars where
  a : Word
  b : Word
  c : Word
  d : Word
  e : Word
deriving DecidableEq, Repr

/-- Round `i` of R132 on the schedule `w`. -/
def sha1Round (w : List Word) (v : Sha1Vars) (i : Nat) : Sha1Vars :=
  { a := rotl v.a 5 + fSha1 i v.b v.c v.d + v.e + kSha1 i + w.getD i 0
    b := v.a
    c := rotl v.b 30
    d := v.c
    e := v.d }

/-- The working variables after the first `k` rounds. -/
def sha1Rounds (w : List Word) (v : Sha1Vars) (k : Nat) : Sha1Vars := (List.range k).foldl (sha1Round w) v

/-- The working variables at the start (R132). -/
def sha1Start (h : Vector Word 5) : Sha1Vars := { a := h[0], b := h[1], c := h[2], d := h[3], e := h[4] }

/-- `Compress_SHA1(h, B)` (R132). -/
def compressSha1 (h : Vector Word 5) (block : List Byte) : Vector Word 5 :=
  let v := sha1Rounds (sha1Schedule block) (sha1Start h) 80
  #v[h[0] + v.a, h[1] + v.b, h[2] + v.c, h[3] + v.d, h[4] + v.e]

/-- The SHA1 instance of the engine (R90). -/
def sha1Engine : Engine 5 :=
  { init := initSha1, compress := compressSha1, lenBytes := bytesBe64, wordBytes := bytesBe32 }

/-- RESET.SHA1 (R133). -/
def execResetSha1 (s : State) : Host.Outcome State Fault Refusal :=
  respond 0 (s.withSha1 (engineReset sha1Engine))

/-- PROCESS.SHA1 (R134). -/
def execProcessSha1 (b : Byte) (s : State) : Host.Outcome State Fault Refusal :=
  finishWrite State.withSha1 (engineAbsorb sha1Engine b s.ctx.sha1) s

/-- FINALIZE.SHA1 (R135). -/
def execFinalizeSha1 (s : State) : Host.Outcome State Fault Refusal :=
  finishWrite State.withSha1 (engineFinalize sha1Engine s.ctx.sha1) s

/-- RDDIGEST.SHA1 (R136). -/
def execRddigestSha1 (idx : Byte) (s : State) : Host.Outcome State Fault Refusal :=
  finishRead (engineReadDigest sha1Engine idx s.ctx.sha1) s

end Sys2Proof.Machine
end

