-- ==== Sys2Proof/Machine/Sha256.lean ====
section
/-!
DEFINITION. The SHA-256 compression core and the commands of the SHA256 context (spec/44_sha256.md R150 to R157).
-/

namespace Sys2Proof.Machine

/-! ## The mixing functions (R151) -/

def ssig0 (x : Word) : Word := rotr x 7 ^^^ rotr x 18 ^^^ shr x 3

def ssig1 (x : Word) : Word := rotr x 17 ^^^ rotr x 19 ^^^ shr x 10

def bsig0 (x : Word) : Word := rotr x 2 ^^^ rotr x 13 ^^^ rotr x 22

def bsig1 (x : Word) : Word := rotr x 6 ^^^ rotr x 11 ^^^ rotr x 25

def maj (a b c : Word) : Word := (a &&& b) ^^^ (a &&& c) ^^^ (b &&& c)

def ch (e f g : Word) : Word := (e &&& f) ^^^ (~~~e &&& g)

/-! ## The compression (R152) -/

/-- The schedule of R152 grown by `k` words, newest first: of `w[i-1], w[i-2], …` the words `w[i-2]`, `w[i-7]`, `w[i-15]`
and `w[i-16]` stand at places 1, 6, 14 and 15. -/
def sha256Extend : Nat → List Word → List Word
  | 0, w => w
  | k + 1, w => sha256Extend k ((w.getD 15 0 + ssig0 (w.getD 14 0) + w.getD 6 0 + ssig1 (w.getD 1 0)) :: w)

/-- `w[0..63]` (R152). -/
def sha256Schedule (block : List Byte) : List Word := (sha256Extend 48 (wordsBe block).reverse).reverse

/-- The working variables of R152; `h` is the one R152 writes with a prime. -/
structure Sha256Vars where
  a : Word
  b : Word
  c : Word
  d : Word
  e : Word
  f : Word
  g : Word
  h : Word
deriving DecidableEq, Repr

/-- `t0` of a round (R152). -/
def sha256T0 (v : Sha256Vars) : Word := bsig0 v.a + maj v.a v.b v.c

/-- `t1` of round `i` (R152). -/
def sha256T1 (w : List Word) (v : Sha256Vars) (i : Nat) : Word :=
  v.h + bsig1 v.e + ch v.e v.f v.g + kSha256 i + w.getD i 0

/-- Round `i` of R152 on the schedule `w`. -/
def sha256Round (w : List Word) (v : Sha256Vars) (i : Nat) : Sha256Vars :=
  { a := sha256T0 v + sha256T1 w v i
    b := v.a
    c := v.b
    d := v.c
    e := v.d + sha256T1 w v i
    f := v.e
    g := v.f
    h := v.g }

/-- The working variables after the first `k` rounds. -/
def sha256Rounds (w : List Word) (v : Sha256Vars) (k : Nat) : Sha256Vars := (List.range k).foldl (sha256Round w) v

/-- The working variables at the start (R152). -/
def sha256Start (h : Vector Word 8) : Sha256Vars :=
  { a := h[0], b := h[1], c := h[2], d := h[3], e := h[4], f := h[5], g := h[6], h := h[7] }

/-- `Compress_SHA256(h, B)` (R152). -/
def compressSha256 (h : Vector Word 8) (block : List Byte) : Vector Word 8 :=
  let v := sha256Rounds (sha256Schedule block) (sha256Start h) 64
  #v[h[0] + v.a, h[1] + v.b, h[2] + v.c, h[3] + v.d, h[4] + v.e, h[5] + v.f, h[6] + v.g, h[7] + v.h]

/-- The SHA256 instance of the engine (R90). -/
def sha256Engine : Engine 8 :=
  { init := initSha256, compress := compressSha256, lenBytes := bytesBe64, wordBytes := bytesBe32 }

/-- RESET.SHA256 (R153). -/
def execResetSha256 (s : State) : Host.Outcome State Fault Refusal :=
  respond 0 (s.withSha256 (engineReset sha256Engine))

/-- PROCESS.SHA256 (R154). -/
def execProcessSha256 (b : Byte) (s : State) : Host.Outcome State Fault Refusal :=
  finishWrite State.withSha256 (engineAbsorb sha256Engine b s.ctx.sha256) s

/-- FINALIZE.SHA256 (R155). -/
def execFinalizeSha256 (s : State) : Host.Outcome State Fault Refusal :=
  finishWrite State.withSha256 (engineFinalize sha256Engine s.ctx.sha256) s

/-- RDDIGEST.SHA256 (R156). -/
def execRddigestSha256 (idx : Byte) (s : State) : Host.Outcome State Fault Refusal :=
  finishRead (engineReadDigest sha256Engine idx s.ctx.sha256) s

end Sys2Proof.Machine
end

