-- ==== Sys2Proof/Machine/Status.lean ====
section
/-!
DEFINITION. NOP and the status commands (spec/46_status.md R190 to R199). They write no context and raise no error.
-/

namespace Sys2Proof.Machine

/-- NOP (R190). -/
def execNop (s : State) : Host.Outcome State Fault Refusal := respond 0 s

/-- RDSTATUS.CRC32 (R192): the context has no buffer, so the TAIL field is 0 (R191). -/
def execRdstatusCrc32 (s : State) : Host.Outcome State Fault Refusal :=
  respond (statusWord 0 s.ctx.crc32.done) s

/-- RDSTATUS.MD5 (R193). -/
def execRdstatusMd5 (s : State) : Host.Outcome State Fault Refusal :=
  respond (statusWord s.ctx.md5.tail s.ctx.md5.done) s

/-- RDSTATUS.SHA1 (R194). -/
def execRdstatusSha1 (s : State) : Host.Outcome State Fault Refusal :=
  respond (statusWord s.ctx.sha1.tail s.ctx.sha1.done) s

/-- RDSTATUS.SHA256 (R195). -/
def execRdstatusSha256 (s : State) : Host.Outcome State Fault Refusal :=
  respond (statusWord s.ctx.sha256.tail s.ctx.sha256.done) s

/-- RDCOUNT.MD5 (R196, R197). -/
def execRdcountMd5 (s : State) : Host.Outcome State Fault Refusal := respond s.ctx.md5.total s

/-- RDCOUNT.SHA1 (R196, R198). -/
def execRdcountSha1 (s : State) : Host.Outcome State Fault Refusal := respond s.ctx.sha1.total s

/-- RDCOUNT.SHA256 (R196, R199). -/
def execRdcountSha256 (s : State) : Host.Outcome State Fault Refusal := respond s.ctx.sha256.total s

end Sys2Proof.Machine
end

