-- ==== Sys2Proof/Machine/Dispatch.lean ====
section
/-!
DEFINITION. The meaning of each command: one arm for each constructor of Instr.
-/

namespace Sys2Proof.Machine

def exec (i : Instr) (s : State) : Host.Outcome State Fault Refusal :=
  match i with
  | .nop => Sys2Proof.Machine.execNop s
  | .resetCrc32 => Sys2Proof.Machine.execResetCrc32 s
  | .resetMd5 => Sys2Proof.Machine.execResetMd5 s
  | .resetSha1 => Sys2Proof.Machine.execResetSha1 s
  | .resetSha256 => Sys2Proof.Machine.execResetSha256 s
  | .processCrc32 b => Sys2Proof.Machine.execProcessCrc32 b s
  | .processMd5 b => Sys2Proof.Machine.execProcessMd5 b s
  | .processSha1 b => Sys2Proof.Machine.execProcessSha1 b s
  | .processSha256 b => Sys2Proof.Machine.execProcessSha256 b s
  | .finalizeCrc32 => Sys2Proof.Machine.execFinalizeCrc32 s
  | .finalizeMd5 => Sys2Proof.Machine.execFinalizeMd5 s
  | .finalizeSha1 => Sys2Proof.Machine.execFinalizeSha1 s
  | .finalizeSha256 => Sys2Proof.Machine.execFinalizeSha256 s
  | .rddigestCrc32 idx => Sys2Proof.Machine.execRddigestCrc32 idx s
  | .rddigestMd5 idx => Sys2Proof.Machine.execRddigestMd5 idx s
  | .rddigestSha1 idx => Sys2Proof.Machine.execRddigestSha1 idx s
  | .rddigestSha256 idx => Sys2Proof.Machine.execRddigestSha256 idx s
  | .rdstatusCrc32 => Sys2Proof.Machine.execRdstatusCrc32 s
  | .rdstatusMd5 => Sys2Proof.Machine.execRdstatusMd5 s
  | .rdstatusSha1 => Sys2Proof.Machine.execRdstatusSha1 s
  | .rdstatusSha256 => Sys2Proof.Machine.execRdstatusSha256 s
  | .rdcountMd5 => Sys2Proof.Machine.execRdcountMd5 s
  | .rdcountSha1 => Sys2Proof.Machine.execRdcountSha1 s
  | .rdcountSha256 => Sys2Proof.Machine.execRdcountSha256 s
  | .bswap16 => Sys2Proof.Machine.execBswap16 s
  | .bswap32 => Sys2Proof.Machine.execBswap32 s
  | .bswap64 => Sys2Proof.Machine.execBswap64 s
  | .rotl16 n => Sys2Proof.Machine.execRotl16 n s
  | .rotl32 n => Sys2Proof.Machine.execRotl32 n s
  | .rotl64 n => Sys2Proof.Machine.execRotl64 n s
  | .rotr16 n => Sys2Proof.Machine.execRotr16 n s
  | .rotr32 n => Sys2Proof.Machine.execRotr32 n s
  | .rotr64 n => Sys2Proof.Machine.execRotr64 n s

end Sys2Proof.Machine
end

