-- ==== Sys2Proof/Machine/Step.lean ====
section
/-!
DEFINITION. One step of the machine: one command transaction (spec/30_encoding.md R50, R51), one hardware reset (R240),
or nothing when the host does nothing (R223, R249).
-/

namespace Sys2Proof.Machine

/-- One step. A word that selects no row raises InvalidCommand (R58); every other runs its command. -/
def step (s : State) : Host.Outcome State Fault Refusal :=
  match fetch s with
  | none => idle s
  | some (.hardwareReset, s') => hardwareReset s'
  | some (.command cmd wdata, s') =>
    match decode cmd with
    | .ok i => exec i (s'.withWdata wdata)
    | .error _ => raise .invalidCommand (s'.withWdata wdata)

/-- The state in which the next step runs the given word: the host issues it, with WDATA zero, before all else it was
going to do (log 7, log 11). -/
def State.withFetchWord (s : State) (nbits w : Nat) : State :=
  s.issueFirst (.command (tableCmd nbits w) (tableWdata nbits w))

end Sys2Proof.Machine
end

