-- ==== Sys2Proof/Machine/Assembler.lean ====
section
/-!
DEFINITION. The host's notation: assembling a command (spec/30_encoding.md R61) and the pseudo-instructions and their
expansions (R62). Nothing here is hardware; the machine runs the commands these give.
-/

namespace Sys2Proof.Machine

/-! ## The commands of one context, by their operation -/

/-- RESET.alg. -/
def resetOf : Alg → Instr
  | .crc32 => .resetCrc32
  | .md5 => .resetMd5
  | .sha1 => .resetSha1
  | .sha256 => .resetSha256

/-- PROCESS.alg. -/
def processOf : Alg → Byte → Instr
  | .crc32, b => .processCrc32 b
  | .md5, b => .processMd5 b
  | .sha1, b => .processSha1 b
  | .sha256, b => .processSha256 b

/-- FINALIZE.alg. -/
def finalizeOf : Alg → Instr
  | .crc32 => .finalizeCrc32
  | .md5 => .finalizeMd5
  | .sha1 => .finalizeSha1
  | .sha256 => .finalizeSha256

/-- RDDIGEST.alg. -/
def rddigestOf : Alg → Byte → Instr
  | .crc32, idx => .rddigestCrc32 idx
  | .md5, idx => .rddigestMd5 idx
  | .sha1, idx => .rddigestSha1 idx
  | .sha256, idx => .rddigestSha256 idx

/-- RDSTATUS.alg. -/
def rdstatusOf : Alg → Instr
  | .crc32 => .rdstatusCrc32
  | .md5 => .rdstatusMd5
  | .sha1 => .rdstatusSha1
  | .sha256 => .rdstatusSha256

/-- DIGEST_SIZE(alg) in bytes (R5). -/
def digestSize : Alg → Nat
  | .crc32 => 4
  | .md5 => 16
  | .sha1 => 20
  | .sha256 => 32

/-! ## Assembling a command (R61) -/

/-- The commands that take WDATA (R50): BSWAP, ROTL, ROTR. -/
def takesWdata : Instr → Bool
  | .bswap16 | .bswap32 | .bswap64 => true
  | .rotl16 _ | .rotl32 _ | .rotl64 _ => true
  | .rotr16 _ | .rotr32 _ | .rotr64 _ => true
  | .nop => false
  | .resetCrc32 | .resetMd5 | .resetSha1 | .resetSha256 => false
  | .processCrc32 _ | .processMd5 _ | .processSha1 _ | .processSha256 _ => false
  | .finalizeCrc32 | .finalizeMd5 | .finalizeSha1 | .finalizeSha256 => false
  | .rddigestCrc32 _ | .rddigestMd5 _ | .rddigestSha1 _ | .rddigestSha256 _ => false
  | .rdstatusCrc32 | .rdstatusMd5 | .rdstatusSha1 | .rdstatusSha256 => false
  | .rdcountMd5 | .rdcountSha1 | .rdcountSha256 => false

/-- What the host sends for a command with operand `x`: "A command that takes no WDATA is assembled with `WDATA = 0`." -/
def assemble (i : Instr) (x : DWord) : HostInput :=
  .command (encode i) (if takesWdata i then x else 0)

/-- The lower-case name of a context in the syntax of R61. -/
def algText : Alg → String
  | .crc32 => "crc32"
  | .md5 => "md5"
  | .sha1 => "sha1"
  | .sha256 => "sha256"

/-- A line of the syntax of R61 with one number after its mnemonic. -/
def lineWith (m : String) (n : Nat) : String := m ++ " " ++ toString n

/-- A line of the syntax of R61 with a rotate count and an operand. -/
def lineWith2 (m : String) (n x : Nat) : String := m ++ " " ++ toString n ++ ", " ++ toString x

/-- The line that writes a command with operand `x`, numbers in decimal (R61). -/
def lineOf (i : Instr) (x : DWord) : String :=
  match i with
  | .nop => "nop"
  | .resetCrc32 => "reset." ++ algText .crc32
  | .resetMd5 => "reset." ++ algText .md5
  | .resetSha1 => "reset." ++ algText .sha1
  | .resetSha256 => "reset." ++ algText .sha256
  | .processCrc32 b => lineWith ("process." ++ algText .crc32) b.toNat
  | .processMd5 b => lineWith ("process." ++ algText .md5) b.toNat
  | .processSha1 b => lineWith ("process." ++ algText .sha1) b.toNat
  | .processSha256 b => lineWith ("process." ++ algText .sha256) b.toNat
  | .finalizeCrc32 => "finalize." ++ algText .crc32
  | .finalizeMd5 => "finalize." ++ algText .md5
  | .finalizeSha1 => "finalize." ++ algText .sha1
  | .finalizeSha256 => "finalize." ++ algText .sha256
  | .rddigestCrc32 idx => lineWith ("rddigest." ++ algText .crc32) idx.toNat
  | .rddigestMd5 idx => lineWith ("rddigest." ++ algText .md5) idx.toNat
  | .rddigestSha1 idx => lineWith ("rddigest." ++ algText .sha1) idx.toNat
  | .rddigestSha256 idx => lineWith ("rddigest." ++ algText .sha256) idx.toNat
  | .rdstatusCrc32 => "rdstatus." ++ algText .crc32
  | .rdstatusMd5 => "rdstatus." ++ algText .md5
  | .rdstatusSha1 => "rdstatus." ++ algText .sha1
  | .rdstatusSha256 => "rdstatus." ++ algText .sha256
  | .rdcountMd5 => "rdcount." ++ algText .md5
  | .rdcountSha1 => "rdcount." ++ algText .sha1
  | .rdcountSha256 => "rdcount." ++ algText .sha256
  | .bswap16 => lineWith "bswap16" x.toNat
  | .bswap32 => lineWith "bswap32" x.toNat
  | .bswap64 => lineWith "bswap64" x.toNat
  | .rotl16 n => lineWith2 "rotl16" n.toNat x.toNat
  | .rotl32 n => lineWith2 "rotl32" n.toNat x.toNat
  | .rotl64 n => lineWith2 "rotl64" n.toNat x.toNat
  | .rotr16 n => lineWith2 "rotr16" n.toNat x.toNat
  | .rotr32 n => lineWith2 "rotr32" n.toNat x.toNat
  | .rotr64 n => lineWith2 "rotr64" n.toNat x.toNat

/-! ## Pseudo-instructions (R62) -/

/-- The four pseudo-instructions. The source of a stream is the bytes it yields until its end; a read failure is treated
as the end (R62, R214). -/
inductive Pseudo where
  | process (alg : Alg) (bytes : List Byte)
  | processStream (alg : Alg) (source : List Byte)
  | calculate (alg : Alg) (bytes : List Byte)
  | digest (alg : Alg)
deriving DecidableEq, Repr

/-- The commands a pseudo-instruction stands for, in order (R62). -/
def expand : Pseudo → List Instr
  | .process alg bytes => bytes.map (processOf alg)
  | .processStream alg source => source.map (processOf alg)
  | .calculate alg bytes => resetOf alg :: (bytes.map (processOf alg) ++ [finalizeOf alg])
  | .digest alg => (List.range (digestSize alg)).map fun idx => rddigestOf alg (BitVec.ofNat 8 idx)

end Sys2Proof.Machine
end

