-- ==== Sys2Proof/Safety.lean ====
section
/-!
DEFINITION. The terms in which claims about the machine are made: the invariant of spec/10_state.md R20, what a command
may answer, the errors of spec/60_exceptions.md R212, a run of commands, and the hash of a whole message.

A safe run is one in which every step answers a next state: the machine has no fault (R215), so every run is safe, and
what a claim says of a run is the list of responses and the final state (R249).
-/

namespace Sys2Proof.Machine

/-! ## The invariant (R20) -/

/-- What holds of a hash context in every reachable state: the buffer in canonical form within its 64 addresses; R20
item 1; until FINALIZE, items 4 and 5 (`TOTAL` a multiple of 64, zeros from the tail up); after it a zero tail (R94). -/
def HashContext.Inv {n : Nat} (c : HashContext n) : Prop :=
  Memory.wf c.buf = true ∧ Memory.inBlock c.buf = true ∧ c.tail.toNat ≤ 63 ∧
  (c.done = false → c.total.toNat % 64 = 0 ∧ ∀ a < 64, c.tail.toNat ≤ a → Memory.read c.buf a = 0) ∧
  (c.done = true → c.tail = 0)

/-- The invariant of the machine. -/
def State.Inv (s : State) : Prop := s.ctx.md5.Inv ∧ s.ctx.sha1.Inv ∧ s.ctx.sha256.Inv

/-! ## Answers -/

/-- From `s` to `t` the port returned the one response `(rdata, err)`; the parameter, WDATA and what the host will still
do are as before. Of the contexts it says nothing. -/
def Answers (s t : State) (rdata : DWord) (err : BitVec 2) : Prop :=
  t.cfg = s.cfg ∧
  t.port = { wdata := s.port.wdata, inputs := s.port.inputs,
             responses := s.port.responses ++ [{ rdata := rdata, err := err }] }

/-- `DONE.alg`. -/
def Contexts.doneOf (c : Contexts) : Alg → Bool
  | .crc32 => c.crc32.done
  | .md5 => c.md5.done
  | .sha1 => c.sha1.done
  | .sha256 => c.sha256.done

/-- The context of `alg` is the same in both. -/
def SameContext (x y : Contexts) : Alg → Prop
  | .crc32 => x.crc32 = y.crc32
  | .md5 => x.md5 = y.md5
  | .sha1 => x.sha1 = y.sha1
  | .sha256 => x.sha256 = y.sha256

/-- The code of a refused operation on `alg` that needs `DONE.alg = 0` (R212: PROCESS, FINALIZE). -/
def openErr (c : Contexts) (alg : Alg) : BitVec 2 := if c.doneOf alg then 1 else 0

/-- The code of RDDIGEST.alg (R212, R213: InvalidState before InvalidIndex). -/
def digestErr (c : Contexts) (alg : Alg) (idx : Byte) : BitVec 2 :=
  if c.doneOf alg = false then 1 else if digestSize alg ≤ idx.toNat then 3 else 0

/-- The table of R212: the ERR of a decoded command in contexts `c`. -/
def errOf (c : Contexts) : Instr → BitVec 2
  | .processCrc32 _ | .finalizeCrc32 => openErr c .crc32
  | .processMd5 _ | .finalizeMd5 => openErr c .md5
  | .processSha1 _ | .finalizeSha1 => openErr c .sha1
  | .processSha256 _ | .finalizeSha256 => openErr c .sha256
  | .rddigestCrc32 idx => digestErr c .crc32 idx
  | .rddigestMd5 idx => digestErr c .md5 idx
  | .rddigestSha1 idx => digestErr c .sha1 idx
  | .rddigestSha256 idx => digestErr c .sha256 idx
  | .nop | .resetCrc32 | .resetMd5 | .resetSha1 | .resetSha256 => 0
  | .rdstatusCrc32 | .rdstatusMd5 | .rdstatusSha1 | .rdstatusSha256 => 0
  | .rdcountMd5 | .rdcountSha1 | .rdcountSha256 => 0
  | .bswap16 | .bswap32 | .bswap64 => 0
  | .rotl16 _ | .rotl32 _ | .rotl64 _ | .rotr16 _ | .rotr32 _ | .rotr64 _ => 0

/-- The commands whose reads have no side effects (R41): RDDIGEST, RDSTATUS, RDCOUNT, BSWAP, ROTL, ROTR, NOP. -/
def readsOnly : Instr → Bool
  | .nop => true
  | .rddigestCrc32 _ | .rddigestMd5 _ | .rddigestSha1 _ | .rddigestSha256 _ => true
  | .rdstatusCrc32 | .rdstatusMd5 | .rdstatusSha1 | .rdstatusSha256 => true
  | .rdcountMd5 | .rdcountSha1 | .rdcountSha256 => true
  | .bswap16 | .bswap32 | .bswap64 => true
  | .rotl16 _ | .rotl32 _ | .rotl64 _ | .rotr16 _ | .rotr32 _ | .rotr64 _ => true
  | .resetCrc32 | .resetMd5 | .resetSha1 | .resetSha256 => false
  | .processCrc32 _ | .processMd5 _ | .processSha1 _ | .processSha256 _ => false
  | .finalizeCrc32 | .finalizeMd5 | .finalizeSha1 | .finalizeSha256 => false

/-- The command is refused with an error code: `RDATA = 0`, and no state is written (R211). -/
def RefusedWith (i : Instr) (s : State) (err : BitVec 2) : Prop :=
  ∃ t, exec i s = .next t ∧ Answers s t 0 err ∧ t.ctx = s.ctx

/-- The command answers `rdata` with no error and writes no context. -/
def ReturnsOnly (i : Instr) (s : State) (rdata : DWord) : Prop :=
  ∃ t, exec i s = .next t ∧ Answers s t rdata 0 ∧ t.ctx = s.ctx

/-- A hash context in the constructed state (R21), by what is read from it. -/
def IsConstructed {n : Nat} (c : HashContext n) (init : Vector Word n) : Prop :=
  c.h = init ∧ (∀ a, Memory.read c.buf a = 0) ∧ c.tail = 0 ∧ c.total = 0 ∧ c.done = false

/-! ## Encodings (R53) -/

/-- A command without an immediate has exactly one word. -/
def EncodedAs (i : Instr) (w : CmdWord) : Prop := ∀ c, decode c = .ok i ↔ c = w

/-- A command with an immediate has exactly the word `pat + IMM8` for each of its 256 values. -/
def EncodedWithImm (command : Byte → Instr) (pat : Nat) : Prop :=
  ∀ c b, decode c = .ok (command b) ↔ c.toNat = pat + b.toNat

/-! ## One byte absorbed, and a message finalised, in the words of R92 and R94 -/

/-- R92 on a context that is not finalised, by what is read from its buffer before and after. -/
def AbsorbsByte {n : Nat} (compress : Vector Word n → List Byte → Vector Word n) (b : Byte) (c c' : HashContext n) :
    Prop :=
  c'.done = c.done ∧
  (c.tail.toNat < 63 →
    c'.h = c.h ∧ c'.total = c.total ∧ c'.tail.toNat = c.tail.toNat + 1 ∧
    ∀ a, Memory.read c'.buf a = if a = c.tail.toNat then b else Memory.read c.buf a) ∧
  (c.tail.toNat = 63 →
    c'.h = compress c.h (Memory.readBytes c.buf 0 63 ++ [b]) ∧ c'.total = c.total + 64 ∧ c'.tail = 0 ∧
    ∀ a, Memory.read c'.buf a = 0)

/-- The length field of R96: `L = 8 * n mod 2^64`, where `n` is the number of message bytes. -/
def lengthField {n : Nat} (lenBytes : DWord → List Byte) (c : HashContext n) : List Byte :=
  lenBytes (BitVec.ofNat 64 ((c.total.toNat + c.tail.toNat) * 8))

/-- R94 on a context that is not finalised, with the blocks of the two cases of R95 written out. -/
def Finalizes {n : Nat} (compress : Vector Word n → List Byte → Vector Word n) (lenBytes : DWord → List Byte)
    (c c' : HashContext n) : Prop :=
  c'.done = true ∧ c'.tail = 0 ∧ c'.total = BitVec.ofNat 64 (c.total.toNat + c.tail.toNat) ∧
  (c.tail.toNat ≤ 55 →
    ∃ block, block = Memory.readBytes c.buf 0 c.tail.toNat ++ [0x80] ++ List.replicate (55 - c.tail.toNat) 0 ++
        lengthField lenBytes c ∧
      c'.h = compress c.h block ∧ Memory.readBytes c'.buf 0 64 = block) ∧
  (56 ≤ c.tail.toNat →
    ∃ first last, first = Memory.readBytes c.buf 0 c.tail.toNat ++ [0x80] ++ List.replicate (63 - c.tail.toNat) 0 ∧
      last = List.replicate 56 0 ++ lengthField lenBytes c ∧
      c'.h = compress (compress c.h first) last ∧ Memory.readBytes c'.buf 0 64 = last)

/-! ## Runs (R249) -/

/-- The commands run in order, with the WDATA that stands on the port. -/
def runCommands : List Instr → State → Host.Outcome State Fault Refusal
  | [], s => .next s
  | i :: is, s =>
    match exec i s with
    | .next t => runCommands is t
    | .fault f => .fault f
    | .refused r => .refused r

/-! ## The hash of a whole message, in one piece -/

/-- The message padded to whole blocks (R9: "a `1` bit, zero padding, and an encoded original bit-length so the final
input is an exact multiple of the block size"). -/
def padMessage (lenBytes : DWord → List Byte) (msg : List Byte) : List Byte :=
  msg ++ [0x80] ++ List.replicate ((119 - msg.length % 64) % 64) 0 ++ lenBytes (BitVec.ofNat 64 (msg.length * 8))

/-- A list of bytes cut into blocks of 64. -/
def blocksOf (bytes : List Byte) : List (List Byte) :=
  (List.range (bytes.length / 64)).map fun k => (bytes.drop (64 * k)).take 64

/-- The working digest of a whole message: the blocks of the padded message compressed one after another from `INIT.alg`. -/
def hashMessage {n : Nat} (e : Engine n) (msg : List Byte) : Vector Word n :=
  (blocksOf (padMessage e.lenBytes msg)).foldl e.compress e.init

/-- The digest of a working digest: its words in index order, each as `word_bytes` gives it (R39). -/
def digestBytes {n : Nat} (wordBytes : Word → Vector Byte 4) (h : Vector Word n) : List Byte :=
  h.toList.flatMap fun w => (wordBytes w).toList

/-- A response that carries one byte and no error (R57). -/
def byteResponse (b : Byte) : Response := { rdata := b.setWidth 64, err := 0 }

/-- The response of a command that has no result and raises no error (R57). -/
def okResponse : Response := { rdata := 0, err := 0 }

/-- The first 64 primes (R150: "2, 3, 5, ..., 311"). -/
def firstPrimes : List Nat :=
  [2, 3, 5, 7, 11, 13, 17, 19, 23, 29, 31, 37, 41, 43, 47, 53] ++
  [59, 61, 67, 71, 73, 79, 83, 89, 97, 101, 103, 107, 109, 113, 127, 131] ++
  [137, 139, 149, 151, 157, 163, 167, 173, 179, 181, 191, 193, 197, 199, 211, 223] ++
  [227, 229, 233, 239, 241, 251, 257, 263, 269, 271, 277, 281, 283, 293, 307, 311]

/-- `rotl_W(x, n)` of R7 on numbers: "x when k = 0, and otherwise `((x << k) | (x >> (W - k))) mod 2^W`", `k = n mod W`. -/
def rotlNat (W x n : Nat) : Nat :=
  if n % W = 0 then x else ((x <<< (n % W)) ||| (x >>> (W - n % W))) % 2 ^ W

/-- `rotr_W(x, n)` of R7 on numbers. -/
def rotrNat (W x n : Nat) : Nat :=
  if n % W = 0 then x else ((x >>> (n % W)) ||| (x <<< (W - n % W))) % 2 ^ W

/-- One bit of a reflected CRC (R170, R171 without the table): shift right, and exclusive-or the polynomial if a 1 was
shifted out. -/
def crcBitStep (c : Word) : Word := if c.getLsbD 0 then (c >>> 1) ^^^ 0xEDB88320 else c >>> 1

end Sys2Proof.Machine
end

