-- ==== Sys2Proof/Certificates/Slice0/Obligations.lean ====
section
/-!
DEFINITION. The statements for the provers, file by file of the spec: encoding, the step, NOP and the status commands,
the bit operations, CRC32, the hash contexts, errors, reset, and what holds of the whole machine.
-/

open Sys2Proof Sys2Proof.Machine

/-! ## Encoding (spec/30_encoding.md) -/

/-- Section 7: the worked encodings, written out there word by word, and its illegal words. -/
def Obligations.WorkedEncodingsDecode : Prop :=
  decode 0x2861 = .ok (.processSha1 0x61) ∧ decode 0x4C1F = .ok (.rddigestSha256 31) ∧
  decode 0x9805 = .ok (.rotl32 5) ∧ decode 0x3400 = .ok .finalizeMd5 ∧
  (decode 0x3401).toOption = none ∧ (decode 0x2161).toOption = none ∧ (decode 0x6000).toOption = none ∧
  (decode 0x8000).toOption = none ∧ (decode 0x7000).toOption = none ∧ (decode 0xB000).toOption = none

/-- Section 2: every command, with its immediate at every value, decodes from the word it is encoded as. -/
def Obligations.DecodeOfEncodeIsTheCommand : Prop := ∀ i : Instr, decode (encode i) = .ok i

/-- Section 2: a word that decodes is the word its command is encoded as; two words never give one command. -/
def Obligations.EncodeOfDecodedIsTheWord : Prop := ∀ (c : CmdWord) (i : Instr), decode c = .ok i → encode i = c

/-- Section 2: "No two rows overlap". -/
def Obligations.OpcodeRowsDoNotOverlap : Prop :=
  opcodeRows.length = 33 ∧
  opcodeRows.Pairwise fun r q => ∀ c : CmdWord, ¬ (r.selects c = true ∧ q.selects c = true)

/-- Section 4: a word is refused exactly when one of the listed clauses applies to its fields OP, SEL, RSV, IMM8. -/
def Obligations.IllegalWordsAreThoseListed : Prop :=
  ∀ c : CmdWord,
    (∀ i, decode c ≠ .ok i) ↔
      let op := c.toNat / 4096
      let sel := c.toNat / 1024 % 4
      let rsv := c.toNat / 256 % 4
      let imm := c.toNat % 256
      op ∈ [0x7, 0xB, 0xC, 0xD, 0xE, 0xF] ∨ rsv ≠ 0 ∨ (op = 0 ∧ sel ≠ 0) ∨
        (op ∈ [0x0, 0x1, 0x3, 0x5, 0x6, 0x8] ∧ imm ≠ 0) ∨ (op = 6 ∧ sel = 0) ∨ (op ∈ [0x8, 0x9, 0xA] ∧ sel = 0)

/-- Section 4: of the 65536 command words, 3603 decode. -/
def Obligations.LegalWordsNumber3603 : Prop :=
  ((List.range 65536).filter fun k => (decode (BitVec.ofNat 16 k)).toOption.isSome).length = 3603

/-! ## The step (spec/30_encoding.md R50, R51) -/

/-- A step runs the decoded command: the host's next input leaves the list, its WDATA stands on the port, and the state
after is that of the command. The list of inputs is the model's (log 1). -/
def Obligations.StepRunsTheDecodedCommand : Prop :=
  ∀ (s : State) (c : CmdWord) (w : DWord) (rest : List HostInput) (i : Instr),
    s.port.inputs = .command c w :: rest → decode c = .ok i →
    step s = exec i { s with port := { s.port with inputs := rest, wdata := w } }

/-- R58, its effect: a word that selects no row answers `ERR = 2`, `RDATA = 0`, and changes no state. -/
def Obligations.IllegalWordRaisesInvalidCommand : Prop :=
  ∀ (s : State) (c : CmdWord) (w : DWord) (rest : List HostInput),
    s.port.inputs = .command c w :: rest → (∀ i, decode c ≠ .ok i) →
    ∃ t, step s = .next t ∧ t.ctx = s.ctx ∧
      Answers { s with port := { s.port with inputs := rest, wdata := w } } t 0 2

/-- Nothing issued: "There is no halt command and nothing the hardware does on its own between or after commands."
That a step with nothing issued changes nothing is the model's reading of it (log 7). -/
def Obligations.StepWithNothingIssuedChangesNothing : Prop :=
  ∀ s : State, s.port.inputs = [] → step s = .next s

/-- R248: every accepted command completes and produces its response, whatever the state; it is exactly one response,
after all earlier ones, and the command is then no more to be issued. -/
def Obligations.EveryCommandCompletesWithOneResponse : Prop :=
  ∀ (s : State) (c : CmdWord) (w : DWord) (rest : List HostInput), s.port.inputs = .command c w :: rest →
    ∃ t r, step s = .next t ∧ t.port.inputs = rest ∧ t.port.responses = s.port.responses ++ [r]

/-- No step stops the machine, changes the parameter, or changes a response already returned. That the parameter is a
field of the state, which no step writes, and the responses a list, is the model's choice (log 4, log 2). -/
def Obligations.NoStepStopsOrRewritesHistory : Prop :=
  ∀ s : State, ∃ t, step s = .next t ∧ t.cfg = s.cfg ∧ s.port.responses <+: t.port.responses

/-! ## NOP and the status commands (spec/46_status.md) -/

/-- R190: NOP is the all-zero word, answers 0 and touches no context. -/
def Obligations.NopTouchesNoContext : Prop :=
  EncodedAs .nop 0x0000 ∧ ∀ s : State, ReturnsOnly .nop s 0

/-- R191 to R195: the status word is `(TAIL << 8) | DONE`, with a TAIL field of 0 for CRC32; it raises no error in any
state and writes nothing. -/
def Obligations.RdstatusReturnsTailAndDone : Prop :=
  EncodedAs .rdstatusCrc32 0x5000 ∧ EncodedAs .rdstatusMd5 0x5400 ∧ EncodedAs .rdstatusSha1 0x5800 ∧
  EncodedAs .rdstatusSha256 0x5C00 ∧
  ∀ s : State,
    ReturnsOnly .rdstatusCrc32 s (BitVec.ofNat 64 s.ctx.crc32.done.toNat) ∧
    ReturnsOnly .rdstatusMd5 s (BitVec.ofNat 64 (s.ctx.md5.tail.toNat * 256 + s.ctx.md5.done.toNat)) ∧
    ReturnsOnly .rdstatusSha1 s (BitVec.ofNat 64 (s.ctx.sha1.tail.toNat * 256 + s.ctx.sha1.done.toNat)) ∧
    ReturnsOnly .rdstatusSha256 s (BitVec.ofNat 64 (s.ctx.sha256.tail.toNat * 256 + s.ctx.sha256.done.toNat))

/-- R197 to R199: RDCOUNT returns TOTAL, in any state, and writes nothing; the word 0x6000 is illegal. -/
def Obligations.RdcountReturnsTotal : Prop :=
  EncodedAs .rdcountMd5 0x6400 ∧ EncodedAs .rdcountSha1 0x6800 ∧ EncodedAs .rdcountSha256 0x6C00 ∧
  (∀ i, decode 0x6000 ≠ .ok i) ∧
  ∀ s : State,
    ReturnsOnly .rdcountMd5 s s.ctx.md5.total ∧ ReturnsOnly .rdcountSha1 s s.ctx.sha1.total ∧
    ReturnsOnly .rdcountSha256 s s.ctx.sha256.total

/-! ## Byte swap and rotate (spec/40_bitops.md) -/

/-- R71 to R73: byte `k` of the result is byte `n-1-k` of the operand, the rest of RDATA is 0, the rest of WDATA is
ignored; applied twice it gives the operand; the relations to `be32` and `bytes_be64`. -/
def Obligations.BswapReversesTheBytes : Prop :=
  EncodedAs .bswap16 0x8400 ∧ EncodedAs .bswap32 0x8800 ∧ EncodedAs .bswap64 0x8C00 ∧
  (∀ s : State,
    (∃ v, ReturnsOnly .bswap16 s v ∧ v.toNat < 2 ^ 16 ∧
      ∀ k < 2, v.extractLsb' (8 * k) 8 = s.port.wdata.extractLsb' (8 * (1 - k)) 8) ∧
    (∃ v, ReturnsOnly .bswap32 s v ∧ v.toNat < 2 ^ 32 ∧
      ∀ k < 4, v.extractLsb' (8 * k) 8 = s.port.wdata.extractLsb' (8 * (3 - k)) 8) ∧
    (∃ v, ReturnsOnly .bswap64 s v ∧
      ∀ k < 8, v.extractLsb' (8 * k) 8 = s.port.wdata.extractLsb' (8 * (7 - k)) 8)) ∧
  (∀ x, byteSwap16 (byteSwap16 x) = x) ∧ (∀ x, byteSwap32 (byteSwap32 x) = x) ∧
  (∀ x, byteSwap64 (byteSwap64 x) = x) ∧
  (∀ b0 b1 b2 b3, byteSwap32 (be32 b0 b1 b2 b3) = le32 b0 b1 b2 b3) ∧
  (∀ v, bytesLe64 v = bytesBe64 (byteSwap64 v))

/-- R74 to R76: `rotl_W` of R7 on the low `W` bits of WDATA, the count IMM8 taken mod `W`, zero-extended. -/
def Obligations.RotlRotatesLeftByTheCountModTheWidth : Prop :=
  EncodedWithImm .rotl16 0x9400 ∧ EncodedWithImm .rotl32 0x9800 ∧ EncodedWithImm .rotl64 0x9C00 ∧
  ∀ (s : State) (n : Byte),
    ReturnsOnly (.rotl16 n) s (BitVec.ofNat 64 (rotlNat 16 (s.port.wdata.toNat % 2 ^ 16) n.toNat)) ∧
    ReturnsOnly (.rotl32 n) s (BitVec.ofNat 64 (rotlNat 32 (s.port.wdata.toNat % 2 ^ 32) n.toNat)) ∧
    ReturnsOnly (.rotl64 n) s (BitVec.ofNat 64 (rotlNat 64 s.port.wdata.toNat n.toNat))

/-- R77 to R79: `rotr_W` of R7 on the low `W` bits of WDATA, the count IMM8 taken mod `W`, zero-extended. -/
def Obligations.RotrRotatesRightByTheCountModTheWidth : Prop :=
  EncodedWithImm .rotr16 0xA400 ∧ EncodedWithImm .rotr32 0xA800 ∧ EncodedWithImm .rotr64 0xAC00 ∧
  ∀ (s : State) (n : Byte),
    ReturnsOnly (.rotr16 n) s (BitVec.ofNat 64 (rotrNat 16 (s.port.wdata.toNat % 2 ^ 16) n.toNat)) ∧
    ReturnsOnly (.rotr32 n) s (BitVec.ofNat 64 (rotrNat 32 (s.port.wdata.toNat % 2 ^ 32) n.toNat)) ∧
    ReturnsOnly (.rotr64 n) s (BitVec.ofNat 64 (rotrNat 64 s.port.wdata.toNat n.toNat))

/-- Section 5: the laws of rotation at every width above 0 (16, 32 and 64 among them) and every count. -/
def Obligations.RotationLaws : Prop :=
  (∀ (W : Nat) (x : BitVec W) (n m : Nat), 0 < W →
    rotr (rotl x n) n = x ∧ rotl (rotl x n) m = rotl x (n + m) ∧ rotl x n = rotl x (n % W) ∧
    rotl x n = rotr x ((W - n % W) % W)) ∧
  ∀ x : BitVec 16, byteSwap16 x = rotl x 8

/-- Section 5: "rotation preserves the number of 1 bits". -/
def Obligations.RotationPreservesTheNumberOfOnes : Prop :=
  ∀ (W : Nat) (x : BitVec W) (n : Nat),
    ((List.range W).countP fun i => (rotl x n).getLsbD i) = (List.range W).countP (fun i => x.getLsbD i) ∧
    ((List.range W).countP fun i => (rotr x n).getLsbD i) = (List.range W).countP (fun i => x.getLsbD i)

/-! ## The CRC32 context (spec/45_crc32.md) -/

/-- R171, R174: a byte moves CRC by one table step; a finalised context refuses it. -/
def Obligations.ProcessCrc32UpdatesTheRunningValue : Prop :=
  EncodedWithImm .processCrc32 0x2000 ∧
  ∀ (s : State) (b : Byte),
    (s.ctx.crc32.done = false →
      ∃ t, exec (.processCrc32 b) s = .next t ∧ Answers s t 0 0 ∧
        t.ctx = { s.ctx with crc32 :=
          { crc := (s.ctx.crc32.crc >>> 8) ^^^
              crcTable.getD ((s.ctx.crc32.crc ^^^ b.setWidth 32) &&& 0xFF#32).toNat 0
            done := false } }) ∧
    (s.ctx.crc32.done = true → RefusedWith (.processCrc32 b) s 1)

/-- R175: FINALIZE.CRC32 inverts CRC in place and sets DONE; a second one is refused and does not invert again. -/
def Obligations.FinalizeCrc32InvertsOnce : Prop :=
  EncodedAs .finalizeCrc32 0x3000 ∧
  ∀ s : State,
    (s.ctx.crc32.done = false →
      ∃ t, exec .finalizeCrc32 s = .next t ∧ Answers s t 0 0 ∧
        t.ctx = { s.ctx with crc32 := { crc := s.ctx.crc32.crc ^^^ 0xFFFFFFFF#32, done := true } }) ∧
    (s.ctx.crc32.done = true → RefusedWith .finalizeCrc32 s 1)

/-- R176: byte 0 of the CRC digest is CRC[31:24] and byte 3 is CRC[7:0]; before FINALIZE InvalidState, from index 4 up
InvalidIndex. -/
def Obligations.RddigestCrc32MostSignificantByteFirst : Prop :=
  EncodedWithImm .rddigestCrc32 0x4000 ∧
  ∀ s : State,
    (s.ctx.crc32.done = true → ∀ j : Fin 4, ReturnsOnly (.rddigestCrc32 (BitVec.ofNat 8 j.val)) s
      (BitVec.ofNat 64 (s.ctx.crc32.crc.toNat / 2 ^ (24 - 8 * j.val) % 256))) ∧
    (s.ctx.crc32.done = true → ∀ idx : Byte, 4 ≤ idx.toNat → RefusedWith (.rddigestCrc32 idx) s 3) ∧
    (s.ctx.crc32.done = false → ∀ idx : Byte, RefusedWith (.rddigestCrc32 idx) s 1)

/-- Section 1: the table step is eight steps of the reflected polynomial 0xEDB88320, one a bit, on the value with the byte
exclusive-ored into its low end. -/
def Obligations.CrcTableStepIsEightBitSteps : Prop :=
  ∀ (crc : Word) (b : Byte), crcStep crc b = crcBitStep^[8] (crc ^^^ b.setWidth 32)

/-- Section 3 (a): `calculate.crc32` and `digest.crc32`, from any state, return the four bytes of the CRC of the message,
worked out bit by bit without the table. -/
def Obligations.CalculateCrc32ReturnsTheCrc : Prop :=
  ∀ (s : State) (msg : List Byte), ∃ t,
    runCommands (expand (.calculate .crc32 msg) ++ expand (.digest .crc32)) s = .next t ∧
    t.port.responses = s.port.responses ++ List.replicate (msg.length + 2) okResponse ++
      (bytesBe32 (msg.foldl (fun c b => crcBitStep^[8] (c ^^^ b.setWidth 32)) 0xFFFFFFFF#32 ^^^ 0xFFFFFFFF#32)).toList.map
        byteResponse

/-! ## The hash contexts (spec/41_block_buffer.md to 44_sha256.md) -/

/-- R91, R113, R133, R153, R173: RESET.alg puts its context in the constructed state, in any state and with no error, and
touches nothing else. -/
def Obligations.ResetConstructsItsContext : Prop :=
  EncodedAs .resetCrc32 0x1000 ∧ EncodedAs .resetMd5 0x1400 ∧ EncodedAs .resetSha1 0x1800 ∧
  EncodedAs .resetSha256 0x1C00 ∧
  ∀ s : State,
    (∃ t, exec .resetCrc32 s = .next t ∧ Answers s t 0 0 ∧
      t.ctx = { s.ctx with crc32 := { crc := 0xFFFFFFFF, done := false } } ∧
      t.ctx.crc32 = State.reset.ctx.crc32) ∧
    (∃ t, exec .resetMd5 s = .next t ∧ Answers s t 0 0 ∧ t.ctx = { s.ctx with md5 := State.reset.ctx.md5 } ∧
      IsConstructed t.ctx.md5 #v[0x67452301, 0xEFCDAB89, 0x98BADCFE, 0x10325476]) ∧
    (∃ t, exec .resetSha1 s = .next t ∧ Answers s t 0 0 ∧ t.ctx = { s.ctx with sha1 := State.reset.ctx.sha1 } ∧
      IsConstructed t.ctx.sha1 #v[0x67452301, 0xEFCDAB89, 0x98BADCFE, 0x10325476, 0xC3D2E1F0]) ∧
    (∃ t, exec .resetSha256 s = .next t ∧ Answers s t 0 0 ∧
      t.ctx = { s.ctx with sha256 := State.reset.ctx.sha256 } ∧
      IsConstructed t.ctx.sha256 #v[0x6A09E667, 0xBB67AE85, 0x3C6EF372, 0xA54FF53A, 0x510E527F, 0x9B05688C,
        0x1F83D9AB, 0x5BE0CD19])

/-- R92, R114, R134, R154: PROCESS.alg stores the byte at TAIL, and compresses the block at once when that fills the
buffer; a finalised context refuses it. Nothing but its context is touched. -/
def Obligations.ProcessAbsorbsOneByte : Prop :=
  EncodedWithImm .processMd5 0x2400 ∧ EncodedWithImm .processSha1 0x2800 ∧ EncodedWithImm .processSha256 0x2C00 ∧
  ∀ (s : State) (b : Byte),
    (s.ctx.md5.done = false →
      ∃ t, exec (.processMd5 b) s = .next t ∧ Answers s t 0 0 ∧ t.ctx = { s.ctx with md5 := t.ctx.md5 } ∧
        AbsorbsByte compressMd5 b s.ctx.md5 t.ctx.md5) ∧
    (s.ctx.md5.done = true → RefusedWith (.processMd5 b) s 1) ∧
    (s.ctx.sha1.done = false →
      ∃ t, exec (.processSha1 b) s = .next t ∧ Answers s t 0 0 ∧ t.ctx = { s.ctx with sha1 := t.ctx.sha1 } ∧
        AbsorbsByte compressSha1 b s.ctx.sha1 t.ctx.sha1) ∧
    (s.ctx.sha1.done = true → RefusedWith (.processSha1 b) s 1) ∧
    (s.ctx.sha256.done = false →
      ∃ t, exec (.processSha256 b) s = .next t ∧ Answers s t 0 0 ∧ t.ctx = { s.ctx with sha256 := t.ctx.sha256 } ∧
        AbsorbsByte compressSha256 b s.ctx.sha256 t.ctx.sha256) ∧
    (s.ctx.sha256.done = true → RefusedWith (.processSha256 b) s 1)

/-- R94, R96, R115, R135, R155: FINALIZE.alg pads, writes the length, compresses one block when TAIL is at most 55 and two
from 56 up, and marks the context finalised; a second one is refused. The MD5 length field is little-endian, big-endian
when `MD5_LENGTH_BIG_ENDIAN` is true. Nothing but its context is touched. -/
def Obligations.FinalizePadsAndCompresses : Prop :=
  EncodedAs .finalizeMd5 0x3400 ∧ EncodedAs .finalizeSha1 0x3800 ∧ EncodedAs .finalizeSha256 0x3C00 ∧
  ∀ s : State,
    (s.ctx.md5.done = false →
      ∃ t, exec .finalizeMd5 s = .next t ∧ Answers s t 0 0 ∧ t.ctx = { s.ctx with md5 := t.ctx.md5 } ∧
        Finalizes compressMd5 (if s.cfg.md5LengthBigEndian then bytesBe64 else bytesLe64) s.ctx.md5 t.ctx.md5) ∧
    (s.ctx.md5.done = true → RefusedWith .finalizeMd5 s 1) ∧
    (s.ctx.sha1.done = false →
      ∃ t, exec .finalizeSha1 s = .next t ∧ Answers s t 0 0 ∧ t.ctx = { s.ctx with sha1 := t.ctx.sha1 } ∧
        Finalizes compressSha1 bytesBe64 s.ctx.sha1 t.ctx.sha1) ∧
    (s.ctx.sha1.done = true → RefusedWith .finalizeSha1 s 1) ∧
    (s.ctx.sha256.done = false →
      ∃ t, exec .finalizeSha256 s = .next t ∧ Answers s t 0 0 ∧ t.ctx = { s.ctx with sha256 := t.ctx.sha256 } ∧
        Finalizes compressSha256 bytesBe64 s.ctx.sha256 t.ctx.sha256) ∧
    (s.ctx.sha256.done = true → RefusedWith .finalizeSha256 s 1)

/-- R97, R116, R136, R156: byte `j` of digest word `i`, counted from the least significant byte for MD5 and from the most
significant for the SHAs; InvalidState before FINALIZE, InvalidIndex beyond the digest. -/
def Obligations.RddigestReturnsTheDigestByte : Prop :=
  EncodedWithImm .rddigestMd5 0x4400 ∧ EncodedWithImm .rddigestSha1 0x4800 ∧
  EncodedWithImm .rddigestSha256 0x4C00 ∧
  ∀ s : State,
    (s.ctx.md5.done = true →
      (∀ (i : Fin 4) (j : Fin 4), ReturnsOnly (.rddigestMd5 (BitVec.ofNat 8 (4 * i.val + j.val))) s
        (BitVec.ofNat 64 (s.ctx.md5.h[i.val].toNat / 2 ^ (8 * j.val) % 256))) ∧
      ∀ idx : Byte, 16 ≤ idx.toNat → RefusedWith (.rddigestMd5 idx) s 3) ∧
    (s.ctx.md5.done = false → ∀ idx : Byte, RefusedWith (.rddigestMd5 idx) s 1) ∧
    (s.ctx.sha1.done = true →
      (∀ (i : Fin 5) (j : Fin 4), ReturnsOnly (.rddigestSha1 (BitVec.ofNat 8 (4 * i.val + j.val))) s
        (BitVec.ofNat 64 (s.ctx.sha1.h[i.val].toNat / 2 ^ (24 - 8 * j.val) % 256))) ∧
      ∀ idx : Byte, 20 ≤ idx.toNat → RefusedWith (.rddigestSha1 idx) s 3) ∧
    (s.ctx.sha1.done = false → ∀ idx : Byte, RefusedWith (.rddigestSha1 idx) s 1) ∧
    (s.ctx.sha256.done = true →
      (∀ (i : Fin 8) (j : Fin 4), ReturnsOnly (.rddigestSha256 (BitVec.ofNat 8 (4 * i.val + j.val))) s
        (BitVec.ofNat 64 (s.ctx.sha256.h[i.val].toNat / 2 ^ (24 - 8 * j.val) % 256))) ∧
      ∀ idx : Byte, 32 ≤ idx.toNat → RefusedWith (.rddigestSha256 idx) s 3) ∧
    (s.ctx.sha256.done = false → ∀ idx : Byte, RefusedWith (.rddigestSha256 idx) s 1)

/-- 42_md5.md section 2: the compression is given by its message words and 64 rounds, each a line of the rule. -/
def Obligations.Md5CompressionFollowsItsRounds : Prop :=
  ∀ (h : Vector Word 4) (B : List Byte), ∃ (m : Nat → Word) (a b c d : Nat → Word),
    (∀ j < 16, m j = B.getD (4 * j + 3) 0 ++ B.getD (4 * j + 2) 0 ++ B.getD (4 * j + 1) 0 ++ B.getD (4 * j) 0) ∧
    (a 0 = h[0] ∧ b 0 = h[1] ∧ c 0 = h[2] ∧ d 0 = h[3]) ∧
    (∀ i < 64, a (i + 1) = d i ∧ c (i + 1) = b i ∧ d (i + 1) = c i) ∧
    (∀ i < 16, b (i + 1) = b i + (a i + ((b i &&& c i) ||| (~~~(b i) &&& d i)) + kMd5Table.getD i 0 +
      m i).rotateLeft ([7, 12, 17, 22].getD (i % 4) 0)) ∧
    (∀ i, 16 ≤ i → i < 32 → b (i + 1) = b i + (a i + ((b i &&& d i) ||| (c i &&& ~~~(d i))) + kMd5Table.getD i 0 +
      m ((5 * i + 1) % 16)).rotateLeft ([5, 9, 14, 20].getD (i % 4) 0)) ∧
    (∀ i, 32 ≤ i → i < 48 → b (i + 1) = b i + (a i + (b i ^^^ c i ^^^ d i) + kMd5Table.getD i 0 +
      m ((3 * i + 5) % 16)).rotateLeft ([4, 11, 16, 23].getD (i % 4) 0)) ∧
    (∀ i, 48 ≤ i → i < 64 → b (i + 1) = b i + (a i + (c i ^^^ (b i ||| ~~~(d i))) + kMd5Table.getD i 0 +
      m ((7 * i) % 16)).rotateLeft ([6, 10, 15, 21].getD (i % 4) 0)) ∧
    compressMd5 h B = #v[h[0] + a 64, h[1] + b 64, h[2] + c 64, h[3] + d 64]

/-- 43_sha1.md section 2: the schedule of 80 words and the 80 rounds. -/
def Obligations.Sha1CompressionFollowsItsRounds : Prop :=
  ∀ (h : Vector Word 5) (B : List Byte), ∃ (w : Nat → Word) (a b c d e : Nat → Word),
    (∀ j < 16, w j = B.getD (4 * j) 0 ++ B.getD (4 * j + 1) 0 ++ B.getD (4 * j + 2) 0 ++ B.getD (4 * j + 3) 0) ∧
    (∀ i, 16 ≤ i → i < 80 → w i = (w (i - 3) ^^^ w (i - 8) ^^^ w (i - 14) ^^^ w (i - 16)).rotateLeft 1) ∧
    (a 0 = h[0] ∧ b 0 = h[1] ∧ c 0 = h[2] ∧ d 0 = h[3] ∧ e 0 = h[4]) ∧
    (∀ i < 80, b (i + 1) = a i ∧ c (i + 1) = (b i).rotateLeft 30 ∧ d (i + 1) = c i ∧ e (i + 1) = d i) ∧
    (∀ i < 20, a (i + 1) =
      (a i).rotateLeft 5 + ((b i &&& c i) ||| (~~~(b i) &&& d i)) + e i + 0x5A827999 + w i) ∧
    (∀ i, 20 ≤ i → i < 40 → a (i + 1) = (a i).rotateLeft 5 + (b i ^^^ c i ^^^ d i) + e i + 0x6ED9EBA1 + w i) ∧
    (∀ i, 40 ≤ i → i < 60 → a (i + 1) =
      (a i).rotateLeft 5 + ((b i &&& c i) ||| (b i &&& d i) ||| (c i &&& d i)) + e i + 0x8F1BBCDC + w i) ∧
    (∀ i, 60 ≤ i → i < 80 → a (i + 1) = (a i).rotateLeft 5 + (b i ^^^ c i ^^^ d i) + e i + 0xCA62C1D6 + w i) ∧
    compressSha1 h B = #v[h[0] + a 80, h[1] + b 80, h[2] + c 80, h[3] + d 80, h[4] + e 80]

/-- 44_sha256.md section 2: the schedule of 64 words and the 64 rounds, with the mixing functions of section 1 written
out. -/
def Obligations.Sha256CompressionFollowsItsRounds : Prop :=
  ∀ (h : Vector Word 8) (B : List Byte), ∃ (w : Nat → Word) (a b c d e f g k t0 t1 : Nat → Word),
    (∀ j < 16, w j = B.getD (4 * j) 0 ++ B.getD (4 * j + 1) 0 ++ B.getD (4 * j + 2) 0 ++ B.getD (4 * j + 3) 0) ∧
    (∀ i, 16 ≤ i → i < 64 → w i = w (i - 16) +
      ((w (i - 15)).rotateRight 7 ^^^ (w (i - 15)).rotateRight 18 ^^^ (w (i - 15) >>> 3)) + w (i - 7) +
      ((w (i - 2)).rotateRight 17 ^^^ (w (i - 2)).rotateRight 19 ^^^ (w (i - 2) >>> 10))) ∧
    (a 0 = h[0] ∧ b 0 = h[1] ∧ c 0 = h[2] ∧ d 0 = h[3] ∧ e 0 = h[4] ∧ f 0 = h[5] ∧ g 0 = h[6] ∧ k 0 = h[7]) ∧
    (∀ i < 64,
      t0 i = ((a i).rotateRight 2 ^^^ (a i).rotateRight 13 ^^^ (a i).rotateRight 22) +
        ((a i &&& b i) ^^^ (a i &&& c i) ^^^ (b i &&& c i)) ∧
      t1 i = k i + ((e i).rotateRight 6 ^^^ (e i).rotateRight 11 ^^^ (e i).rotateRight 25) +
        ((e i &&& f i) ^^^ (~~~(e i) &&& g i)) + kSha256Table.getD i 0 + w i ∧
      a (i + 1) = t0 i + t1 i ∧ b (i + 1) = a i ∧ c (i + 1) = b i ∧ d (i + 1) = c i ∧
      e (i + 1) = d i + t1 i ∧ f (i + 1) = e i ∧ g (i + 1) = f i ∧ k (i + 1) = g i) ∧
    compressSha256 h B = #v[h[0] + a 64, h[1] + b 64, h[2] + c 64, h[3] + d 64, h[4] + e 64, h[5] + f 64,
      h[6] + g 64, h[7] + k 64]

/-- 44_sha256.md section 1: entry `i` of the table is the first 32 bits of the fractional part of the cube root of prime
`i`; section 3: the initial constants are those of the square roots of the first eight primes. -/
def Obligations.Sha256ConstantsAreRootsOfPrimes : Prop :=
  (∀ i < 64, ∃ q : Nat, q ^ 3 ≤ firstPrimes.getD i 0 * 2 ^ 96 ∧ firstPrimes.getD i 0 * 2 ^ 96 < (q + 1) ^ 3 ∧
    (kSha256Table.getD i 0).toNat = q % 2 ^ 32) ∧
  ∀ i : Fin 8, ∃ q : Nat, q ^ 2 ≤ firstPrimes.getD i.val 0 * 2 ^ 64 ∧
    firstPrimes.getD i.val 0 * 2 ^ 64 < (q + 1) ^ 2 ∧ initSha256[i.val].toNat = q % 2 ^ 32

/-- 41_block_buffer.md section 1 and section 6: fed a byte at a time, from any state, `calculate.alg` and `digest.alg`
return the digest of the message as it is defined in one piece: the whole message padded, cut into blocks and compressed
one block after another. MD5 under both settings of the length parameter. -/
def Obligations.CalculateReturnsTheHashOfTheWholeMessage : Prop :=
  ∀ (s : State) (msg : List Byte),
    (∃ t, runCommands (expand (.calculate .md5 msg) ++ expand (.digest .md5)) s = .next t ∧
      t.port.responses = s.port.responses ++ List.replicate (msg.length + 2) okResponse ++
        (digestBytes bytesLe32 (hashMessage (md5Engine s.cfg) msg)).map byteResponse) ∧
    (∃ t, runCommands (expand (.calculate .sha1 msg) ++ expand (.digest .sha1)) s = .next t ∧
      t.port.responses = s.port.responses ++ List.replicate (msg.length + 2) okResponse ++
        (digestBytes bytesBe32 (hashMessage sha1Engine msg)).map byteResponse) ∧
    (∃ t, runCommands (expand (.calculate .sha256 msg) ++ expand (.digest .sha256)) s = .next t ∧
      t.port.responses = s.port.responses ++ List.replicate (msg.length + 2) okResponse ++
        (digestBytes bytesBe32 (hashMessage sha256Engine msg)).map byteResponse)

/-- 41_block_buffer.md section 3: after exactly 64 bytes following a reset the block has been compressed: TAIL is 0, TOTAL
is 64, the buffer is zero, and H is the compression of those 64 bytes. -/
def Obligations.SixtyFourthByteCompressesAtOnce : Prop :=
  ∀ (s : State) (msg : List Byte), msg.length = 64 →
    (∃ t, runCommands (.resetMd5 :: msg.map .processMd5) s = .next t ∧
      t.ctx.md5 = { h := compressMd5 initMd5 msg, buf := [], tail := 0, total := 64, done := false }) ∧
    (∃ t, runCommands (.resetSha1 :: msg.map .processSha1) s = .next t ∧
      t.ctx.sha1 = { h := compressSha1 initSha1 msg, buf := [], tail := 0, total := 64, done := false }) ∧
    (∃ t, runCommands (.resetSha256 :: msg.map .processSha256) s = .next t ∧
      t.ctx.sha256 = { h := compressSha256 initSha256 msg, buf := [], tail := 0, total := 64, done := false })

/-- 10_state.md section 8, item 2: until FINALIZE, the number of bytes accepted since the reset is TOTAL + TAIL, mod 2^64,
with TAIL that number mod 64. -/
def Obligations.AcceptedBytesAreTotalPlusTail : Prop :=
  ∀ (s : State) (msg : List Byte),
    (∃ t, runCommands (.resetMd5 :: msg.map .processMd5) s = .next t ∧ t.ctx.md5.done = false ∧
      t.ctx.md5.tail.toNat = msg.length % 64 ∧
      t.ctx.md5.total + t.ctx.md5.tail.setWidth 64 = BitVec.ofNat 64 msg.length) ∧
    (∃ t, runCommands (.resetSha1 :: msg.map .processSha1) s = .next t ∧ t.ctx.sha1.done = false ∧
      t.ctx.sha1.tail.toNat = msg.length % 64 ∧
      t.ctx.sha1.total + t.ctx.sha1.tail.setWidth 64 = BitVec.ofNat 64 msg.length) ∧
    (∃ t, runCommands (.resetSha256 :: msg.map .processSha256) s = .next t ∧ t.ctx.sha256.done = false ∧
      t.ctx.sha256.tail.toNat = msg.length % 64 ∧
      t.ctx.sha256.total + t.ctx.sha256.tail.setWidth 64 = BitVec.ofNat 64 msg.length)

/-- R99: while DONE is 1, PROCESS and FINALIZE raise InvalidState and change nothing; RDDIGEST (in range), RDSTATUS and
RDCOUNT work; RESET returns the context to the initial state. -/
def Obligations.FinalizedContextTakesOnlyReadsAndReset : Prop :=
  (∀ (s : State) (alg : Alg) (b idx : Byte), s.ctx.doneOf alg = true →
    RefusedWith (processOf alg b) s 1 ∧ RefusedWith (finalizeOf alg) s 1 ∧
    (idx.toNat < digestSize alg → ∃ v, ReturnsOnly (rddigestOf alg idx) s v) ∧
    (∃ v, ReturnsOnly (rdstatusOf alg) s v) ∧
    ∃ t, exec (resetOf alg) s = .next t ∧ SameContext t.ctx State.reset.ctx alg) ∧
  ∀ s : State, (∃ v, ReturnsOnly .rdcountMd5 s v) ∧ (∃ v, ReturnsOnly .rdcountSha1 s v) ∧
    ∃ v, ReturnsOnly .rdcountSha256 s v

/-- 41_block_buffer.md section 5: "Immutable once finalized". Whatever commands run, without RESET.alg among them, a
finalised context stays as it is. -/
def Obligations.FinalizedContextIsImmutableUntilReset : Prop :=
  ∀ (is : List Instr) (s : State) (alg : Alg), s.ctx.doneOf alg = true → resetOf alg ∉ is →
    ∃ t, runCommands is s = .next t ∧ SameContext s.ctx t.ctx alg

/-! ## Errors (spec/60_exceptions.md) -/

/-- R210, R213, and the first two columns of R212: the ERR of every command word in every state: 2 for a word that selects no row, else the table of
R212 with InvalidState before InvalidIndex. -/
def Obligations.ErrIsThatOfTheErrorTable : Prop :=
  ∀ (s : State) (c : CmdWord) (w : DWord) (rest : List HostInput), s.port.inputs = .command c w :: rest →
    ∃ t v e, step s = .next t ∧ t.port.responses = s.port.responses ++ [{ rdata := v, err := e }] ∧
      (∀ i, decode c = .ok i → e = errOf s.ctx i) ∧ ((∀ i, decode c ≠ .ok i) → e = 2)

/-- R211: an error is precise and leaves no trace: the failing command writes no state and its RDATA is 0, so the next
step goes as it would from the state the failing command found. -/
def Obligations.ErrorLeavesNoTrace : Prop :=
  ∀ (s t : State) (c : CmdWord) (w v : DWord) (e : BitVec 2) (rest : List HostInput),
    s.port.inputs = .command c w :: rest → step s = .next t →
    t.port.responses = s.port.responses ++ [{ rdata := v, err := e }] → e ≠ 0 →
    v = 0 ∧ t = { s with port := { wdata := w, inputs := rest, responses := s.port.responses ++ [⟨0, e⟩] } }

/-! ## Reset (spec/10_state.md R21, spec/70_reset_and_hazards.md) -/

/-- R21, R240: hardware reset puts all four contexts in the constructed state, whatever they were; the state after reset
has them so. That reset is an input which lands between commands is the model's choice (log 8). -/
def Obligations.HardwareResetConstructsAllContexts : Prop :=
  (∀ (s : State) (rest : List HostInput), s.port.inputs = .hardwareReset :: rest →
    ∃ t, step s = .next t ∧ t.ctx = State.reset.ctx) ∧
  State.reset.ctx.crc32 = { crc := 0xFFFFFFFF, done := false } ∧
  IsConstructed State.reset.ctx.md5 #v[0x67452301, 0xEFCDAB89, 0x98BADCFE, 0x10325476] ∧
  IsConstructed State.reset.ctx.sha1 #v[0x67452301, 0xEFCDAB89, 0x98BADCFE, 0x10325476, 0xC3D2E1F0] ∧
  IsConstructed State.reset.ctx.sha256 #v[0x6A09E667, 0xBB67AE85, 0x3C6EF372, 0xA54FF53A, 0x510E527F, 0x9B05688C,
    0x1F83D9AB, 0x5BE0CD19]

/-- 70_reset_and_hazards.md section 1: the four RESET commands, in any order and from any state, leave exactly the
contexts of hardware reset. -/
def Obligations.FourResetsEqualHardwareReset : Prop :=
  ∀ (s : State) (is : List Instr), is.Perm [.resetCrc32, .resetMd5, .resetSha1, .resetSha256] →
    ∃ t, runCommands is s = .next t ∧ t.ctx = State.reset.ctx

/-! ## The whole machine (spec/10_state.md) -/

/-- R22: a command whose ALG selects one context writes only that context, and what it does to it and answers depends on
no other; so commands for different contexts may change places. -/
def Obligations.ContextsAreIndependent : Prop :=
  (∀ (i : Instr) (s t : State) (alg : Alg), exec i s = .next t → i.alg ≠ some alg → SameContext s.ctx t.ctx alg) ∧
  (∀ (i : Instr) (s s' t t' : State) (alg : Alg), i.alg = some alg → s.cfg = s'.cfg → SameContext s.ctx s'.ctx alg →
    exec i s = .next t → exec i s' = .next t' →
    SameContext t.ctx t'.ctx alg ∧
      ∃ r, t.port.responses = s.port.responses ++ [r] ∧ t'.port.responses = s'.port.responses ++ [r]) ∧
  ∀ (i j : Instr) (s : State), i.alg ≠ j.alg →
    ∃ t t', runCommands [i, j] s = .next t ∧ runCommands [j, i] s = .next t' ∧ t.ctx = t'.ctx

/-- 41_block_buffer.md section 6: what a run leaves in a context is what its commands for that context alone leave. -/
def Obligations.InterleavedCommandsDoNotMatter : Prop :=
  ∀ (is : List Instr) (s : State) (alg : Alg),
    ∃ t u, runCommands is s = .next t ∧ runCommands (is.filter fun i => decide (i.alg = some alg)) s = .next u ∧
      SameContext t.ctx u.ctx alg

/-- 20_memory.md section 4: RDDIGEST, RDSTATUS, RDCOUNT, BSWAP, ROTL, ROTR and NOP change no state, and repeated give the
same response. -/
def Obligations.ReadsHaveNoSideEffects : Prop :=
  ∀ (i : Instr) (s : State), readsOnly i = true →
    ∃ t u r, exec i s = .next t ∧ exec i t = .next u ∧ t.ctx = s.ctx ∧ u.ctx = s.ctx ∧ t.cfg = s.cfg ∧
      t.port.responses = s.port.responses ++ [r] ∧ u.port.responses = t.port.responses ++ [r]

/-- 10_state.md section 4: DONE.alg is set by FINALIZE.alg and cleared by RESET.alg, and no other command writes it. -/
def Obligations.DoneIsWrittenByFinalizeAndResetOnly : Prop :=
  ∀ (i : Instr) (s t : State) (alg : Alg), exec i s = .next t →
    t.ctx.doneOf alg =
      if i = finalizeOf alg then true else if i = resetOf alg then false else s.ctx.doneOf alg

/-- The invariant of section 8 holds at reset. -/
def Obligations.ResetSatisfiesTheInvariant : Prop := State.Inv State.reset

/-- Section 8: every step keeps the invariant: buffers in canonical form within their 64 addresses, TAIL below 64, and until
FINALIZE a TOTAL that is a multiple of 64 and zeros in the buffer from the tail up. -/
def Obligations.EveryStepKeepsTheInvariant : Prop :=
  ∀ s t : State, s.Inv → step s = .next t → t.Inv
end

