-- ==== Sys2Proof/Laws/Bits.lean ====
section
/-!
SUPPORT. The bit helpers: the fields of a command word built from its upper half and IMM8, and rotation by one width in
terms of the library's.
-/

namespace Sys2Proof

open Machine

/-! ## The fields of `withImm` -/

theorem opField_withImm (pat : CmdWord) (b : Byte) : opField (withImm pat b) = opField pat := by
  apply BitVec.eq_of_getLsbD_eq
  intro i hi
  simp [opField, withImm, BitVec.getLsbD_of_ge b (12 + i) (by omega)]

theorem selField_withImm (pat : CmdWord) (b : Byte) : selField (withImm pat b) = selField pat := by
  apply BitVec.eq_of_getLsbD_eq
  intro i hi
  simp [selField, withImm, BitVec.getLsbD_of_ge b (10 + i) (by omega)]

theorem rsvField_withImm (pat : CmdWord) (b : Byte) : rsvField (withImm pat b) = rsvField pat := by
  apply BitVec.eq_of_getLsbD_eq
  intro i hi
  simp [rsvField, withImm]

theorem imm8Field_withImm (pat : CmdWord) (b : Byte) (h : imm8Field pat = 0) : imm8Field (withImm pat b) = b := by
  apply BitVec.eq_of_getLsbD_eq
  intro i hi
  have hp : pat[i] = false := by
    have := congrArg (fun v : Byte => v.getLsbD i) h
    rw [← BitVec.getLsbD_eq_getElem]
    simpa [imm8Field, hi] using this
  simp [imm8Field, withImm, hi, show i < 16 by omega, hp]

/-! ## Rotation -/

theorem Machine.rotl_eq_rotateLeft {W : Nat} (x : BitVec W) (n : Nat) : rotl x n = x.rotateLeft n := by
  unfold rotl
  split
  · next h =>
    have h0 : x >>> W = 0 := BitVec.eq_of_getLsbD_eq fun i hi => by simp
    simp [BitVec.rotateLeft, BitVec.rotateLeftAux, h, h0]
  · rfl

theorem Machine.rotr_eq_rotateRight {W : Nat} (x : BitVec W) (n : Nat) : rotr x n = x.rotateRight n := by
  unfold rotr
  split
  · next h =>
    have h0 : x <<< W = 0 := BitVec.eq_of_getLsbD_eq fun i hi => by simp [hi]
    simp [BitVec.rotateRight, BitVec.rotateRightAux, h, h0]
  · rfl

end Sys2Proof
end

