-- ==== Sys2Proof/Laws/Memory.lean ====
section
/-!
SUPPORT. The laws of a block buffer: what a read gives after a write, and that every operation keeps the canonical form
and the 64 addresses of the buffer.
-/

namespace Sys2Proof.Machine

namespace Memory

@[simp] theorem read_zeroed (a : Nat) : read zeroed a = 0 := rfl

@[simp] theorem wf_zeroed : wf zeroed = true := rfl

@[simp] theorem inBlock_zeroed : inBlock zeroed = true := rfl

/-! ## Reading after writing -/

theorem read_filter_self (m : Memory) (a : Nat) : read (m.filter fun c => c.1 != a) a = 0 := by
  induction m with
  | nil => rfl
  | cons c m ih =>
    obtain ⟨x, v⟩ := c
    by_cases h : x = a <;> simp [h, read, ih]

theorem read_filter_ne (m : Memory) {a a' : Nat} (h : a' ≠ a) :
    read (m.filter fun c => c.1 != a) a' = read m a' := by
  induction m with
  | nil => rfl
  | cons c m ih =>
    obtain ⟨x, v⟩ := c
    by_cases hx : x = a
    · subst hx
      simp [read, ih, Ne.symm h]
    · simp [hx, read, ih]

theorem read_place_self (m : Memory) (a : Nat) (b : Byte) (h : ∀ c ∈ m, c.1 ≠ a) : read (place m a b) a = b := by
  induction m with
  | nil => simp [place, read]
  | cons c m ih =>
    obtain ⟨x, v⟩ := c
    have hx : x ≠ a := h (x, v) (by simp)
    by_cases hlt : a < x
    · simp [place, hlt, read]
    · simp [place, hlt, read, hx, ih fun c hc => h c (by simp [hc])]

theorem read_place_ne (m : Memory) {a a' : Nat} (b : Byte) (h : a' ≠ a) : read (place m a b) a' = read m a' := by
  induction m with
  | nil => simp [place, read, Ne.symm h]
  | cons c m ih =>
    obtain ⟨x, v⟩ := c
    by_cases hlt : a < x
    · simp [place, hlt, read, Ne.symm h]
    · simp [place, hlt, read, ih]

/-- A read gives the last byte written at its address; a write leaves every other address alone. -/
theorem read_write (m : Memory) (a a' : Nat) (b : Byte) :
    read (write m a b) a' = if a' = a then b else read m a' := by
  unfold write
  by_cases hb : b = 0
  · by_cases h : a' = a
    · subst h; simp [hb, read_filter_self]
    · simp [hb, h, read_filter_ne m h]
  · by_cases h : a' = a
    · subst h
      simp only [hb, if_false, if_true]
      exact read_place_self _ _ _ (by simp)
    · rw [if_neg hb, if_neg h, read_place_ne _ b h, read_filter_ne m h]

/-- A read after a block of bytes is written. -/
theorem read_writeBytes (m : Memory) (a a' : Nat) (bytes : List Byte) :
    read (writeBytes m a bytes) a' =
      if a ≤ a' ∧ a' < a + bytes.length then bytes.getD (a' - a) 0 else read m a' := by
  induction bytes generalizing m a with
  | nil => simp [writeBytes, show ¬ (a ≤ a' ∧ a' < a) by omega]
  | cons b bs ih =>
    rw [writeBytes, ih, read_write]
    by_cases h0 : a' = a
    · subst h0; simp
    · by_cases h1 : a + 1 ≤ a' ∧ a' < a + 1 + bs.length
      · rw [if_pos h1, if_pos (by simp only [List.length_cons]; omega),
          show a' - a = (a' - (a + 1)) + 1 by omega]
        simp
      · rw [if_neg h1, if_neg h0, if_neg (by simp only [List.length_cons]; omega)]

@[simp] theorem length_readBytes (m : Memory) (a n : Nat) : (readBytes m a n).length = n := by
  simp [readBytes]

theorem getD_readBytes (m : Memory) (a n k : Nat) (h : k < n) : (readBytes m a n).getD k 0 = read m (a + k) := by
  simp [readBytes, List.getD_eq_getElem?_getD, h]

/-! ## The canonical form -/

/-- Every listed cell is not 0x00, and addresses rise strictly. -/
theorem wf_iff (m : Memory) : wf m = true ↔ m.Pairwise (fun c d => c.1 < d.1) ∧ ∀ c ∈ m, c.2 ≠ 0 := by
  induction m with
  | nil => simp [wf]
  | cons c m ih =>
    obtain ⟨x, v⟩ := c
    cases m with
    | nil => simp [wf]
    | cons d m =>
      obtain ⟨y, u⟩ := d
      simp only [wf, Bool.and_eq_true, decide_eq_true_eq, bne_iff_ne, ih, List.pairwise_cons, List.mem_cons]
      constructor
      · rintro ⟨⟨hxy, hv⟩, ⟨hy, hm⟩, hne⟩
        refine ⟨⟨?_, hy, hm⟩, ?_⟩
        · rintro e (rfl | he)
          · exact hxy
          · exact lt_trans hxy (hy e he)
        · rintro e (rfl | he)
          · exact hv
          · exact hne e he
      · rintro ⟨⟨hx, hy, hm⟩, hne⟩
        exact ⟨⟨hx _ (.inl rfl), hne _ (.inl rfl)⟩, ⟨hy, hm⟩, fun e he => hne e (.inr he)⟩

/-- An address below every listed one reads as 0x00. -/
theorem read_of_lt (m : Memory) (a : Nat) (h : ∀ c ∈ m, a < c.1) : read m a = 0 := by
  induction m with
  | nil => rfl
  | cons c m ih =>
    have hc : a < c.1 := h c (by simp)
    rw [read, if_neg (by omega)]
    exact ih fun d hd => h d (by simp [hd])

/-- Equal memories are equal data: two lists in canonical form that read alike are the same list. -/
theorem eq_of_read (m k : Memory) (hm : wf m = true) (hk : wf k = true) (h : ∀ a, read m a = read k a) : m = k := by
  rw [wf_iff] at hm hk
  induction m generalizing k with
  | nil =>
    cases k with
    | nil => rfl
    | cons d k => exact absurd (by simpa [read] using (h d.1).symm) (hk.2 d (by simp))
  | cons c m ih =>
    obtain ⟨x, v⟩ := c
    have hv : v ≠ 0 := hm.2 (x, v) (by simp)
    have hmx := List.pairwise_cons.1 hm.1
    cases k with
    | nil => exact absurd (by simpa [read] using h x) hv
    | cons d k =>
      obtain ⟨y, u⟩ := d
      have hu : u ≠ 0 := hk.2 (y, u) (by simp)
      have hky := List.pairwise_cons.1 hk.1
      have hxy : x = y := by
        rcases Nat.lt_trichotomy x y with hlt | heq | hlt
        · have h0 : read ((y, u) :: k) x = 0 := read_of_lt _ _ fun c hc => by
            rcases List.mem_cons.1 hc with rfl | hc
            · exact hlt
            · exact lt_trans hlt (hky.1 c hc)
          have := h x
          rw [h0] at this
          exact absurd (by simpa [read] using this) hv
        · exact heq
        · have h0 : read ((x, v) :: m) y = 0 := read_of_lt _ _ fun c hc => by
            rcases List.mem_cons.1 hc with rfl | hc
            · exact hlt
            · exact lt_trans hlt (hmx.1 c hc)
          have := h y
          rw [h0] at this
          exact absurd (by simpa [read] using this.symm) hu
      subst hxy
      have hvu : v = u := by simpa [read] using h x
      subst hvu
      congr 1
      refine ih k ⟨hmx.2, fun c hc => hm.2 c (by simp [hc])⟩ ⟨hky.2, fun c hc => hk.2 c (by simp [hc])⟩ fun a => ?_
      by_cases ha : a = x
      · subst ha
        rw [read_of_lt m a hmx.1, read_of_lt k a hky.1]
      · simpa [read, Ne.symm ha] using h a

theorem mem_place (m : Memory) (a : Nat) (b : Byte) (c : Host.Cell) :
    c ∈ place m a b ↔ c = (a, b) ∨ c ∈ m := by
  induction m with
  | nil => simp [place]
  | cons d m ih =>
    obtain ⟨x, v⟩ := d
    by_cases h : a < x
    · simp [place, h]
    · simp only [place, h, if_false, List.mem_cons, ih]
      tauto

theorem pairwise_place (m : Memory) (a : Nat) (b : Byte) (hm : m.Pairwise fun c d => c.1 < d.1)
    (h : ∀ c ∈ m, c.1 ≠ a) : (place m a b).Pairwise fun c d => c.1 < d.1 := by
  induction m with
  | nil => simp [place]
  | cons d m ih =>
    obtain ⟨x, v⟩ := d
    have hx : x ≠ a := h (x, v) (by simp)
    rw [List.pairwise_cons] at hm
    by_cases hlt : a < x
    · rw [place, if_pos hlt]
      refine List.pairwise_cons.2 ⟨?_, List.pairwise_cons.2 hm⟩
      rintro e he
      rcases List.mem_cons.1 he with rfl | he
      · exact hlt
      · exact lt_trans hlt (hm.1 e he)
    · rw [place, if_neg hlt]
      refine List.pairwise_cons.2 ⟨?_, ih hm.2 fun c hc => h c (by simp [hc])⟩
      intro e he
      rcases (mem_place m a b e).1 he with rfl | he
      · show x < a
        omega
      · exact hm.1 e he

/-- A write keeps the canonical form. -/
theorem wf_write (m : Memory) (a : Nat) (b : Byte) (hm : wf m = true) : wf (write m a b) = true := by
  rw [wf_iff] at hm ⊢
  have hp : (m.filter fun c => c.1 != a).Pairwise fun c d => c.1 < d.1 := hm.1.filter _
  have hn : ∀ c ∈ m.filter fun c => c.1 != a, c.2 ≠ 0 := fun c hc => hm.2 c (List.mem_of_mem_filter hc)
  unfold write
  by_cases hb : b = 0
  · simpa [hb] using ⟨hp, fun x v hx _ => hm.2 (x, v) hx⟩
  · rw [if_neg hb]
    refine ⟨pairwise_place _ a b hp (by simp), fun c hc => ?_⟩
    rcases (mem_place _ a b c).1 hc with rfl | hc
    · exact hb
    · exact hn c hc

/-- A write of a block of bytes keeps the canonical form. -/
theorem wf_writeBytes (m : Memory) (a : Nat) (bytes : List Byte) (hm : wf m = true) :
    wf (writeBytes m a bytes) = true := by
  induction bytes generalizing m a with
  | nil => exact hm
  | cons b bs ih => exact ih _ _ (wf_write m a b hm)

theorem inBlock_iff (m : Memory) : inBlock m = true ↔ ∀ c ∈ m, c.1 < 64 := by
  simp [inBlock, List.all_eq_true]

/-- A write at one of the 64 addresses lists no other. -/
theorem inBlock_write (m : Memory) (a : Nat) (b : Byte) (hm : inBlock m = true) (ha : a < 64) :
    inBlock (write m a b) = true := by
  rw [inBlock_iff] at hm ⊢
  have hf : ∀ c ∈ m.filter fun c => c.1 != a, c.1 < 64 := fun c hc => hm c (List.mem_of_mem_filter hc)
  unfold write
  by_cases hb : b = 0
  · rw [if_pos hb]; exact hf
  · rw [if_neg hb]
    intro c hc
    rcases (mem_place _ a b c).1 hc with rfl | hc
    · exact ha
    · exact hf c hc

/-- A write of a block of bytes within the 64 addresses lists no other. -/
theorem inBlock_writeBytes (m : Memory) (a : Nat) (bytes : List Byte) (hm : inBlock m = true)
    (ha : a + bytes.length ≤ 64) : inBlock (writeBytes m a bytes) = true := by
  induction bytes generalizing m a with
  | nil => exact hm
  | cons b bs ih =>
    simp only [List.length_cons] at ha
    exact ih _ _ (inBlock_write m a b hm (by omega)) (by omega)

/-- Zeroing a buffer is writing 64 zeros to it (R91, R92): on a buffer in canonical form within its addresses the two
give the same data. -/
theorem writeBytes_zeros (m : Memory) (hm : wf m = true) (hb : inBlock m = true) :
    writeBytes m 0 (List.replicate 64 0) = zeroed := by
  refine eq_of_read _ _ (wf_writeBytes m 0 _ hm) rfl fun a => ?_
  rw [read_writeBytes, read_zeroed]
  by_cases ha : a < 64
  · rw [if_pos (by simp only [List.length_replicate]; omega), List.getD_eq_getElem?_getD, List.getElem?_replicate]
    split <;> rfl
  · rw [if_neg (by simp only [List.length_replicate]; omega)]
    clear hm
    induction m with
    | nil => rfl
    | cons c m ih =>
      simp only [inBlock, List.all_cons, Bool.and_eq_true, decide_eq_true_eq] at hb
      rw [read, if_neg (by omega)]
      exact ih hb.2

end Memory

/-- The buffers of the reset state have the canonical form. -/
theorem reset_buffers_wf :
    Memory.wf State.reset.ctx.md5.buf = true ∧ Memory.wf State.reset.ctx.sha1.buf = true ∧
      Memory.wf State.reset.ctx.sha256.buf = true := by decide

end Sys2Proof.Machine
end

