-- ==== Sys2Proof/Laws/State.lean ====
section
/-!
SUPPORT. One lemma for each field and each update of the state, so that no proof unfolds a record update.
-/

namespace Sys2Proof.Machine

variable (s : State)

/-! ## withCrc32 -/

@[simp] theorem State.withCrc32_cfg (c : Crc32Context) : (s.withCrc32 c).cfg = s.cfg := rfl
@[simp] theorem State.withCrc32_port (c : Crc32Context) : (s.withCrc32 c).port = s.port := rfl
@[simp] theorem State.withCrc32_crc32 (c : Crc32Context) : (s.withCrc32 c).ctx.crc32 = c := rfl
@[simp] theorem State.withCrc32_md5 (c : Crc32Context) : (s.withCrc32 c).ctx.md5 = s.ctx.md5 := rfl
@[simp] theorem State.withCrc32_sha1 (c : Crc32Context) : (s.withCrc32 c).ctx.sha1 = s.ctx.sha1 := rfl
@[simp] theorem State.withCrc32_sha256 (c : Crc32Context) : (s.withCrc32 c).ctx.sha256 = s.ctx.sha256 := rfl

/-! ## withMd5 -/

@[simp] theorem State.withMd5_cfg (c : HashContext 4) : (s.withMd5 c).cfg = s.cfg := rfl
@[simp] theorem State.withMd5_port (c : HashContext 4) : (s.withMd5 c).port = s.port := rfl
@[simp] theorem State.withMd5_crc32 (c : HashContext 4) : (s.withMd5 c).ctx.crc32 = s.ctx.crc32 := rfl
@[simp] theorem State.withMd5_md5 (c : HashContext 4) : (s.withMd5 c).ctx.md5 = c := rfl
@[simp] theorem State.withMd5_sha1 (c : HashContext 4) : (s.withMd5 c).ctx.sha1 = s.ctx.sha1 := rfl
@[simp] theorem State.withMd5_sha256 (c : HashContext 4) : (s.withMd5 c).ctx.sha256 = s.ctx.sha256 := rfl

/-! ## withSha1 -/

@[simp] theorem State.withSha1_cfg (c : HashContext 5) : (s.withSha1 c).cfg = s.cfg := rfl
@[simp] theorem State.withSha1_port (c : HashContext 5) : (s.withSha1 c).port = s.port := rfl
@[simp] theorem State.withSha1_crc32 (c : HashContext 5) : (s.withSha1 c).ctx.crc32 = s.ctx.crc32 := rfl
@[simp] theorem State.withSha1_md5 (c : HashContext 5) : (s.withSha1 c).ctx.md5 = s.ctx.md5 := rfl
@[simp] theorem State.withSha1_sha1 (c : HashContext 5) : (s.withSha1 c).ctx.sha1 = c := rfl
@[simp] theorem State.withSha1_sha256 (c : HashContext 5) : (s.withSha1 c).ctx.sha256 = s.ctx.sha256 := rfl

/-! ## withSha256 -/

@[simp] theorem State.withSha256_cfg (c : HashContext 8) : (s.withSha256 c).cfg = s.cfg := rfl
@[simp] theorem State.withSha256_port (c : HashContext 8) : (s.withSha256 c).port = s.port := rfl
@[simp] theorem State.withSha256_crc32 (c : HashContext 8) : (s.withSha256 c).ctx.crc32 = s.ctx.crc32 := rfl
@[simp] theorem State.withSha256_md5 (c : HashContext 8) : (s.withSha256 c).ctx.md5 = s.ctx.md5 := rfl
@[simp] theorem State.withSha256_sha1 (c : HashContext 8) : (s.withSha256 c).ctx.sha1 = s.ctx.sha1 := rfl
@[simp] theorem State.withSha256_sha256 (c : HashContext 8) : (s.withSha256 c).ctx.sha256 = c := rfl

/-! ## answered -/

@[simp] theorem State.answered_cfg (v : DWord) (e : Err) : (s.answered v e).cfg = s.cfg := rfl
@[simp] theorem State.answered_ctx (v : DWord) (e : Err) : (s.answered v e).ctx = s.ctx := rfl
@[simp] theorem State.answered_wdata (v : DWord) (e : Err) : (s.answered v e).port.wdata = s.port.wdata := rfl
@[simp] theorem State.answered_inputs (v : DWord) (e : Err) : (s.answered v e).port.inputs = s.port.inputs := rfl
@[simp] theorem State.answered_responses (v : DWord) (e : Err) :
    (s.answered v e).port.responses = s.port.responses ++ [{ rdata := v, err := e.code }] := rfl

/-! ## withWdata and issueFirst -/

@[simp] theorem State.withWdata_cfg (w : DWord) : (s.withWdata w).cfg = s.cfg := rfl
@[simp] theorem State.withWdata_ctx (w : DWord) : (s.withWdata w).ctx = s.ctx := rfl
@[simp] theorem State.withWdata_wdata (w : DWord) : (s.withWdata w).port.wdata = w := rfl
@[simp] theorem State.withWdata_inputs (w : DWord) : (s.withWdata w).port.inputs = s.port.inputs := rfl
@[simp] theorem State.withWdata_responses (w : DWord) : (s.withWdata w).port.responses = s.port.responses := rfl
@[simp] theorem State.issueFirst_cfg (x : HostInput) : (s.issueFirst x).cfg = s.cfg := rfl
@[simp] theorem State.issueFirst_ctx (x : HostInput) : (s.issueFirst x).ctx = s.ctx := rfl
@[simp] theorem State.issueFirst_wdata (x : HostInput) : (s.issueFirst x).port.wdata = s.port.wdata := rfl
@[simp] theorem State.issueFirst_inputs (x : HostInput) : (s.issueFirst x).port.inputs = x :: s.port.inputs := rfl
@[simp] theorem State.issueFirst_responses (x : HostInput) :
    (s.issueFirst x).port.responses = s.port.responses := rfl

/-! ## HashContext.reset -/

section
variable {n : Nat} (init : Vector Word n)
@[simp] theorem HashContext.reset_h : (HashContext.reset init).h = init := rfl
@[simp] theorem HashContext.reset_buf : (HashContext.reset init).buf = [] := rfl
@[simp] theorem HashContext.reset_tail : (HashContext.reset init).tail = 0 := rfl
@[simp] theorem HashContext.reset_total : (HashContext.reset init).total = 0 := rfl
@[simp] theorem HashContext.reset_done : (HashContext.reset init).done = false := rfl
end

end Sys2Proof.Machine
end

