-- ==== Sys2Proof/Laws/Ops.lean ====
section
/-!
SUPPORT. What each shared operation over the port can do, said once.
-/

namespace Sys2Proof.Machine

/-- A command that ends with a value: the next state is the answered one. -/
theorem respond_eq_next {v : DWord} {s t : State} : respond v s = .next t ↔ t = s.answered v .ok := by
  simp [respond, eq_comm]

/-- Raising an error: the next state is the answered one. -/
theorem raise_eq_next {e : Err} {s t : State} : raise e s = .next t ↔ t = s.answered 0 e := by
  simp [raise, eq_comm]

/-- All that the end of a writing command can do. -/
theorem finishWrite_eq_next {α : Type} {put : State → α → State} {r : Except Err α} {s t : State} :
    finishWrite put r s = .next t ↔
      (∃ c, r = .ok c ∧ t = (put s c).answered 0 .ok) ∨ (∃ e, r = .error e ∧ t = s.answered 0 e) := by
  cases r <;> simp [finishWrite, respond, raise, eq_comm]

/-- All that the end of a reading command can do. -/
theorem finishRead_eq_next {r : Except Err DWord} {s t : State} :
    finishRead r s = .next t ↔
      (∃ v, r = .ok v ∧ t = s.answered v .ok) ∨ (∃ e, r = .error e ∧ t = s.answered 0 e) := by
  cases r <;> simp [finishRead, respond, raise, eq_comm]

/-- The check of PROCESS and FINALIZE. -/
theorem unlessDone_of_not_done {α : Type} {d : Bool} (r : α) (h : d = false) : unlessDone d r = .ok r := by
  simp [unlessDone, h]

theorem unlessDone_of_done {α : Type} {d : Bool} (r : α) (h : d = true) : unlessDone d r = .error .invalidState := by
  simp [unlessDone, h]

/-- What the port takes from the host. -/
theorem fetch_of_nil {s : State} (h : s.port.inputs = []) : fetch s = none := by simp [fetch, h]

theorem fetch_of_cons {s : State} {x : HostInput} {rest : List HostInput} (h : s.port.inputs = x :: rest) :
    fetch s = some (x, { s with port := { s.port with inputs := rest } }) := by simp [fetch, h]

end Sys2Proof.Machine
end

