-- ==== Sys2Proof/Laws/Engine.lean ====
section
/-!
SUPPORT. The block buffer engine: the cases of each of its procedures, and what is read from a buffer it wrote.
-/

namespace Sys2Proof.Machine

variable {n : Nat} (e : Engine n)

/-- All that `Engine_Absorb` can do. -/
theorem engineAbsorb_eq (b : Byte) (c : HashContext n) :
    engineAbsorb e b c = if c.done then .error .invalidState else .ok (absorb e b c) := rfl

/-- All that `Engine_Finalize` can do. -/
theorem engineFinalize_eq (c : HashContext n) :
    engineFinalize e c = if c.done then .error .invalidState else .ok (finish e c) := rfl

/-- A byte that does not fill the buffer. -/
theorem absorb_of_tail_ne (b : Byte) (c : HashContext n) (h : c.tail ≠ 63) :
    absorb e b c = { c with buf := Memory.write c.buf c.tail.toNat b, tail := c.tail + 1 } := by
  rw [absorb, if_neg h, absorbBuf]

/-- The byte that fills the buffer. -/
theorem absorb_of_tail_eq (b : Byte) (c : HashContext n) (h : c.tail = 63) :
    absorb e b c =
      { c with
        h := e.compress c.h (Memory.readBytes (Memory.write c.buf 63 b) 0 64)
        total := c.total + 64, tail := 0, buf := Memory.zeroed } := by
  simp [absorb, absorbBuf, h]

/-- Neither procedure changes DONE but FINALIZE. -/
@[simp] theorem absorb_done (b : Byte) (c : HashContext n) : (absorb e b c).done = c.done := by
  unfold absorb; split <;> rfl

@[simp] theorem finish_done (c : HashContext n) : (finish e c).done = true := rfl
@[simp] theorem finish_tail (c : HashContext n) : (finish e c).tail = 0 := rfl
@[simp] theorem finish_total (c : HashContext n) : (finish e c).total = c.total + c.tail.setWidth 64 := rfl

/-- What is read from the padded buffer: the message bytes, 0x80, zeros to the end. -/
theorem read_padBuf (c : HashContext n) (a : Nat) (ha : a < 64) :
    Memory.read (padBuf c) a =
      if a < c.tail.toNat then Memory.read c.buf a else if a = c.tail.toNat then 0x80 else 0 := by
  have ht : c.tail.toNat < 64 := c.tail.isLt
  unfold padBuf
  rw [Memory.read_writeBytes, Memory.read_write]
  by_cases h1 : a < c.tail.toNat
  · rw [if_neg (by omega), if_neg (by omega), if_pos h1]
  · by_cases h2 : a = c.tail.toNat
    · rw [if_neg (by omega), if_pos h2, if_neg h1, if_pos h2]
    · rw [if_pos (by simp only [List.length_replicate]; omega), if_neg h1, if_neg h2]
      rw [List.getD_eq_getElem?_getD, List.getElem?_replicate]
      split <;> rfl

/-- All that `Engine_ReadDigest` can do on a context that is not finalised. -/
theorem engineReadDigest_of_not_done (imm : Byte) (c : HashContext n) (h : c.done = false) :
    engineReadDigest e imm c = .error .invalidState := by simp [engineReadDigest, h]

/-- And on a finalised one, beyond the digest. -/
theorem engineReadDigest_of_index (imm : Byte) (c : HashContext n) (h : c.done = true) (hi : 4 * n ≤ imm.toNat) :
    engineReadDigest e imm c = .error .invalidIndex := by
  simp [engineReadDigest, h, digestIndex, show ¬ imm.toNat < 4 * n by omega]

end Sys2Proof.Machine
end

