-- ==== Sys2Proof/Laws/PerInstr.lean ====
section
/-!
SUPPORT. Statements made of every instruction, one lemma for each constructor of Instr.
-/

namespace Sys2Proof.Laws

open Sys2Proof.Machine

namespace EncodedWordWellFormed

/-- The word a command is encoded as is well formed: no clause of R58 applies to it. -/
def Statement (i : Instr) : Prop := wellFormedWord (encode i) = true

/-- A word made of an upper half and IMM8 is well formed when its fields above IMM8 are, IMM8 being an operand. -/
theorem of_withImm (pat : CmdWord) (b : Byte) (hop : opField pat ∈ [0x2#4, 0x4#4, 0x9#4, 0xA#4])
    (hsel : opField pat ∈ [0x2#4, 0x4#4] ∨ selField pat ≠ 0) (hrsv : rsvField pat = 0) :
    wellFormedWord (withImm pat b) = true := by
  simp only [wellFormedWord, IllegalReason.all, List.any_cons, List.any_nil, IllegalReason.holds, opField_withImm,
    selField_withImm, rsvField_withImm, hrsv]
  simp only [List.mem_cons, List.not_mem_nil, or_false] at hop hsel
  rcases hop with h | h | h | h <;> simp_all

theorem nop : Statement .nop := by unfold Statement; decide

theorem resetCrc32 : Statement .resetCrc32 := by unfold Statement; decide

theorem resetMd5 : Statement .resetMd5 := by unfold Statement; decide

theorem resetSha1 : Statement .resetSha1 := by unfold Statement; decide

theorem resetSha256 : Statement .resetSha256 := by unfold Statement; decide

theorem processCrc32 (b : Byte) : Statement (.processCrc32 b) := of_withImm 0x2000 b (by decide) (by decide) (by decide)

theorem processMd5 (b : Byte) : Statement (.processMd5 b) := of_withImm 0x2400 b (by decide) (by decide) (by decide)

theorem processSha1 (b : Byte) : Statement (.processSha1 b) := of_withImm 0x2800 b (by decide) (by decide) (by decide)

theorem processSha256 (b : Byte) : Statement (.processSha256 b) := of_withImm 0x2C00 b (by decide) (by decide) (by decide)

theorem finalizeCrc32 : Statement .finalizeCrc32 := by unfold Statement; decide

theorem finalizeMd5 : Statement .finalizeMd5 := by unfold Statement; decide

theorem finalizeSha1 : Statement .finalizeSha1 := by unfold Statement; decide

theorem finalizeSha256 : Statement .finalizeSha256 := by unfold Statement; decide

theorem rddigestCrc32 (idx : Byte) : Statement (.rddigestCrc32 idx) := of_withImm 0x4000 idx (by decide) (by decide) (by decide)

theorem rddigestMd5 (idx : Byte) : Statement (.rddigestMd5 idx) := of_withImm 0x4400 idx (by decide) (by decide) (by decide)

theorem rddigestSha1 (idx : Byte) : Statement (.rddigestSha1 idx) := of_withImm 0x4800 idx (by decide) (by decide) (by decide)

theorem rddigestSha256 (idx : Byte) : Statement (.rddigestSha256 idx) := of_withImm 0x4C00 idx (by decide) (by decide) (by decide)

theorem rdstatusCrc32 : Statement .rdstatusCrc32 := by unfold Statement; decide

theorem rdstatusMd5 : Statement .rdstatusMd5 := by unfold Statement; decide

theorem rdstatusSha1 : Statement .rdstatusSha1 := by unfold Statement; decide

theorem rdstatusSha256 : Statement .rdstatusSha256 := by unfold Statement; decide

theorem rdcountMd5 : Statement .rdcountMd5 := by unfold Statement; decide

theorem rdcountSha1 : Statement .rdcountSha1 := by unfold Statement; decide

theorem rdcountSha256 : Statement .rdcountSha256 := by unfold Statement; decide

theorem bswap16 : Statement .bswap16 := by unfold Statement; decide

theorem bswap32 : Statement .bswap32 := by unfold Statement; decide

theorem bswap64 : Statement .bswap64 := by unfold Statement; decide

theorem rotl16 (n : Byte) : Statement (.rotl16 n) := of_withImm 0x9400 n (by decide) (by decide) (by decide)

theorem rotl32 (n : Byte) : Statement (.rotl32 n) := of_withImm 0x9800 n (by decide) (by decide) (by decide)

theorem rotl64 (n : Byte) : Statement (.rotl64 n) := of_withImm 0x9C00 n (by decide) (by decide) (by decide)

theorem rotr16 (n : Byte) : Statement (.rotr16 n) := of_withImm 0xA400 n (by decide) (by decide) (by decide)

theorem rotr32 (n : Byte) : Statement (.rotr32 n) := of_withImm 0xA800 n (by decide) (by decide) (by decide)

theorem rotr64 (n : Byte) : Statement (.rotr64 n) := of_withImm 0xAC00 n (by decide) (by decide) (by decide)

end EncodedWordWellFormed

end Sys2Proof.Laws
end

