-- ==== Sys2Proof/Laws/Step.lean ====
section
/-!
SUPPORT. The host's two definitions for running one word: what step fetches from a state with a word issued first. And
what every command does outside its context, said once.
-/

namespace Sys2Proof.Machine

/-- The next thing fetched is the word that was issued first, and then the state is as it was. -/
theorem fetch_withFetchWord (s : State) (nbits w : Nat) :
    fetch (s.withFetchWord nbits w) = some (.command (tableCmd nbits w) (tableWdata nbits w), s) := rfl

/-- So the step runs what the decoder reads from that word. -/
theorem step_withFetchWord (s : State) (nbits w : Nat) (i : Instr) (h : decodeTableWord nbits w = some i) :
    step (s.withFetchWord nbits w) = exec i (s.withWdata (tableWdata nbits w)) := by
  unfold decodeTableWord at h
  unfold step
  rw [fetch_withFetchWord]
  cases hd : decode (tableCmd nbits w) with
  | ok j => simp_all [Except.toOption]
  | error r => simp [hd, Except.toOption] at h

/-- Outside the contexts every command does the same: it goes on, keeps the parameter and returns one response; and with an
error that response carries 0 and the contexts are as before. -/
theorem exec_answers (i : Instr) (s : State) :
    ∃ t r, exec i s = .next t ∧ t.cfg = s.cfg ∧
      t.port = { s.port with responses := s.port.responses ++ [r] } ∧ (r.err ≠ 0 → r.rdata = 0 ∧ t.ctx = s.ctx) := by
  cases i <;> first
  | exact ⟨_, _, rfl, rfl, rfl, fun h => absurd rfl h⟩
  | (simp only [exec, execProcessCrc32, execProcessMd5, execProcessSha1, execProcessSha256, execFinalizeCrc32,
      execFinalizeMd5, execFinalizeSha1, execFinalizeSha256, engineAbsorb, engineFinalize, unlessDone,
      execRddigestCrc32, execRddigestMd5, execRddigestSha1, execRddigestSha256, readCrcDigest, engineReadDigest]
     split <;> (try split) <;> first
     | exact ⟨_, _, rfl, rfl, rfl, fun h => absurd rfl h⟩
     | exact ⟨_, _, rfl, rfl, rfl, fun _ => ⟨rfl, rfl⟩⟩)

end Sys2Proof.Machine
end

