-- ==== Sys2Proof/Tests/Slice0.lean ====
section
/-!
SUPPORT. Tests, each of one word or one command, with results taken from the spec (spec/95_test_vectors.md and the
examples of the rules), and the witnesses of the hypotheses of the statements.
-/

namespace Sys2Proof.Tests

open Sys2Proof.Machine

/-! ## Helpers -/

/-- A machine with the given CRC32 context. -/
def crcAt (crc : Word) (done : Bool) : State := State.reset.withCrc32 { crc := crc, done := done }

/-- `n` buffered bytes 'A'. -/
def bufA (n : Nat) : Memory := (List.range n).map fun k => (k, 0x41)

/-- A hash context in the middle of a message: the initial constants, these bytes buffered. -/
def midway {n : Nat} (init : Vector Word n) (buf : Memory) (tail : BitVec 6) (total : DWord) : HashContext n :=
  { h := init, buf := buf, tail := tail, total := total, done := false }

/-- A finalised hash context. -/
def finalised {n : Nat} (h : Vector Word n) (total : DWord) : HashContext n :=
  { h := h, buf := [], tail := 0, total := total, done := true }

def md5At (buf : Memory) (tail : BitVec 6) : State := State.reset.withMd5 (midway initMd5 buf tail 0)

def sha1At (buf : Memory) (tail : BitVec 6) : State := State.reset.withSha1 (midway initSha1 buf tail 0)

def sha256At (buf : Memory) (tail : BitVec 6) : State := State.reset.withSha256 (midway initSha256 buf tail 0)

/-- The empty message finalised in MD5 (R115), "a" in SHA-1 (section 5.2) and the empty message in SHA-256 (S4). -/
def md5Done : State := State.reset.withMd5 (finalised #v[0xD98C1DD4, 0x04B2008F, 0x980980E9, 0x7E42F8EC] 0)

def sha1Done : State :=
  State.reset.withSha1 (finalised #v[0x86F7E437, 0xFAA5A7FC, 0xE15D1DDC, 0xB9EAEAEA, 0x377667B8] 1)

def sha256Done : State :=
  State.reset.withSha256
    (finalised #v[0xE3B0C442, 0x98FC1C14, 0x9AFBF4C8, 0x996FB924, 0x27AE41E4, 0x649B934C, 0xA495991B, 0x7852B855] 0)

/-- The state after a step or a command, when it answers one. -/
def after (o : Host.Outcome State Fault Refusal) : Option State :=
  match o with
  | .next t => some t
  | .fault _ => none
  | .refused _ => none

/-- What was returned, from nothing returned before. -/
def returned (o : Host.Outcome State Fault Refusal) : Option (List (DWord × BitVec 2)) :=
  (after o).map fun t => t.port.responses.map fun r => (r.rdata, r.err)

/-- The contexts left. -/
def left (o : Host.Outcome State Fault Refusal) : Option Contexts := (after o).map fun t => t.ctx

/-- The result of a command that reads WDATA. -/
def onWdata (i : Instr) (x : DWord) : Option (List (DWord × BitVec 2)) := returned (exec i (State.reset.withWdata x))

/-- A machine whose host issues the word next. -/
def issuing (s : State) (c : CmdWord) : State := s.issueFirst (.command c 0)

/-! ## Well-formed words: an ill-formed one for each check (section 5.1, illegal words) -/

theorem test_wf_refuses_reserved_op :
    wellFormedWord 0x7000 = false ∧ IllegalReason.reservedOp.holds 0x7000 = true ∧
      decode 0xF000 = .error .reservedOp := by decide

theorem test_wf_refuses_rsv :
    wellFormedWord 0x2161 = false ∧ IllegalReason.rsvNotZero.holds 0x2161 = true ∧
      decode 0x4900 = .error .rsvNotZero := by decide

theorem test_wf_refuses_nop_sel :
    wellFormedWord 0x0400 = false ∧ IllegalReason.nopSelNotZero.holds 0x0400 = true ∧
      decode 0x0400 = .error .nopSelNotZero := by decide

theorem test_wf_refuses_imm :
    wellFormedWord 0x3401 = false ∧ IllegalReason.immNotZero.holds 0x3401 = true ∧
      decode 0x0001 = .error .immNotZero := by decide

theorem test_wf_refuses_rdcount_crc32 :
    wellFormedWord 0x6000 = false ∧ IllegalReason.rdcountOfCrc32.holds 0x6000 = true ∧
      decode 0x6000 = .error .rdcountOfCrc32 := by decide

theorem test_wf_refuses_wsel_zero :
    wellFormedWord 0x8000 = false ∧ IllegalReason.wselZero.holds 0x90FF = true ∧
      decode 0xA000 = .error .wselZero := by decide

theorem test_wf_accepts_legal_words :
    wellFormedWord 0x0000 = true ∧ wellFormedWord 0x48FF = true ∧ wellFormedWord 0xACFF = true := by decide

/-! ## Decoding: a word of every command, written out as OP, SEL, RSV, IMM8 (R52 to R55, section 5.1) -/

theorem test_decode_nop : decode 0b0000000000000000 = .ok .nop := by decide
theorem test_decode_reset_crc32 : decode 0b0001000000000000 = .ok .resetCrc32 := by decide
theorem test_decode_reset_md5 : decode 0b0001010000000000 = .ok .resetMd5 := by decide
theorem test_decode_reset_sha1 : decode 0b0001100000000000 = .ok .resetSha1 := by decide
theorem test_decode_reset_sha256 : decode 0b0001110000000000 = .ok .resetSha256 := by decide
theorem test_decode_process_crc32 : decode 0b0010000001100001 = .ok (.processCrc32 0x61) := by decide
theorem test_decode_process_md5 : decode 0b0010010011111111 = .ok (.processMd5 0xFF) := by decide
theorem test_decode_process_sha1 : decode 0b0010100000000000 = .ok (.processSha1 0x00) := by decide
theorem test_decode_process_sha256 : decode 0b0010110010000000 = .ok (.processSha256 0x80) := by decide
theorem test_decode_finalize_crc32 : decode 0b0011000000000000 = .ok .finalizeCrc32 := by decide
theorem test_decode_finalize_md5 : decode 0b0011010000000000 = .ok .finalizeMd5 := by decide
theorem test_decode_finalize_sha1 : decode 0b0011100000000000 = .ok .finalizeSha1 := by decide
theorem test_decode_finalize_sha256 : decode 0b0011110000000000 = .ok .finalizeSha256 := by decide
theorem test_decode_rddigest_crc32 : decode 0b0100000000000011 = .ok (.rddigestCrc32 3) := by decide
theorem test_decode_rddigest_md5 : decode 0b0100010000001111 = .ok (.rddigestMd5 15) := by decide
theorem test_decode_rddigest_sha1 : decode 0b0100100011111111 = .ok (.rddigestSha1 255) := by decide
theorem test_decode_rddigest_sha256 : decode 0b0100110000011111 = .ok (.rddigestSha256 31) := by decide
theorem test_decode_rdstatus_crc32 : decode 0b0101000000000000 = .ok .rdstatusCrc32 := by decide
theorem test_decode_rdstatus_md5 : decode 0b0101010000000000 = .ok .rdstatusMd5 := by decide
theorem test_decode_rdstatus_sha1 : decode 0b0101100000000000 = .ok .rdstatusSha1 := by decide
theorem test_decode_rdstatus_sha256 : decode 0b0101110000000000 = .ok .rdstatusSha256 := by decide
theorem test_decode_rdcount_md5 : decode 0b0110010000000000 = .ok .rdcountMd5 := by decide
theorem test_decode_rdcount_sha1 : decode 0b0110100000000000 = .ok .rdcountSha1 := by decide
theorem test_decode_rdcount_sha256 : decode 0b0110110000000000 = .ok .rdcountSha256 := by decide
theorem test_decode_bswap16 : decode 0b1000010000000000 = .ok .bswap16 := by decide
theorem test_decode_bswap32 : decode 0b1000100000000000 = .ok .bswap32 := by decide
theorem test_decode_bswap64 : decode 0b1000110000000000 = .ok .bswap64 := by decide
theorem test_decode_rotl16 : decode 0b1001010000000101 = .ok (.rotl16 5) := by decide
theorem test_decode_rotl32 : decode 0b1001100000000101 = .ok (.rotl32 5) := by decide
theorem test_decode_rotl64 : decode 0b1001110000000101 = .ok (.rotl64 5) := by decide
theorem test_decode_rotr16 : decode 0b1010010011111111 = .ok (.rotr16 255) := by decide
theorem test_decode_rotr32 : decode 0b1010100011111111 = .ok (.rotr32 255) := by decide
theorem test_decode_rotr64 : decode 0b1010110011111111 = .ok (.rotr64 255) := by decide

/-- R61 to R63: the encoder, the assembler and a line of its syntax. -/
theorem test_encode_rotl32 :
    assemble (.rotl32 5) 0x12345678 = .command 0x9805 0x12345678 ∧
      assemble (.processSha1 0x61) 7 = .command 0x2861 0 ∧
      lineOf (.rotl32 5) 305419896 = "rotl32 5, 305419896" := by decide

/-- R62: the expansion of a pseudo-instruction. -/
theorem test_expand_calculate :
    expand (.calculate .sha1 [0x61, 0x62]) = [.resetSha1, .processSha1 0x61, .processSha1 0x62, .finalizeSha1] ∧
      expand (.digest .crc32) = [.rddigestCrc32 0, .rddigestCrc32 1, .rddigestCrc32 2, .rddigestCrc32 3] := by decide

/-! ## Byte swap and rotate (section 2) -/

theorem test_bswap16_ignores_upper : onWdata .bswap16 0xFFFFFFFFFFFF1234 = some [(0x3412, 0)] := by decide
theorem test_bswap32_ignores_upper : onWdata .bswap32 0xAAAAAAAA12345678 = some [(0x78563412, 0)] := by decide
theorem test_bswap64 : onWdata .bswap64 0x0123456789ABCDEF = some [(0xEFCDAB8967452301, 0)] := by decide
theorem test_rotl16_count_20 : onWdata (.rotl16 20) 0xABCD = some [(0xBCDA, 0)] := by decide
theorem test_rotl16_count_255 : onWdata (.rotl16 255) 0x8001 = some [(0xC000, 0)] := by decide
theorem test_rotl32_count_32 : onWdata (.rotl32 32) 0x12345678 = some [(0x12345678, 0)] := by decide
theorem test_rotl32_count_255 : onWdata (.rotl32 255) 0xDEADBEEF80000001 = some [(0xC0000000, 0)] := by decide
theorem test_rotl64_count_8 : onWdata (.rotl64 8) 0x0123456789ABCDEF = some [(0x23456789ABCDEF01, 0)] := by decide
theorem test_rotl64_count_255 : onWdata (.rotl64 255) 0x0123456789ABCDEF = some [(0x8091A2B3C4D5E6F7, 0)] := by decide
theorem test_rotr16_count_20 : onWdata (.rotr16 20) 0xABCD = some [(0xDABC, 0)] := by decide
theorem test_rotr16_count_255 : onWdata (.rotr16 255) 0x8001 = some [(0x0003, 0)] := by decide
theorem test_rotr32_count_4 : onWdata (.rotr32 4) 0x12345678 = some [(0x81234567, 0)] := by decide
theorem test_rotr32_count_31 : onWdata (.rotr32 31) 0x12345678 = some [(0x2468ACF0, 0)] := by decide
theorem test_rotr64_count_64 : onWdata (.rotr64 64) 0x0123456789ABCDEF = some [(0x0123456789ABCDEF, 0)] := by decide
theorem test_rotr64_count_255 : onWdata (.rotr64 255) 0x0123456789ABCDEF = some [(0x02468ACF13579BDE, 0)] := by decide

/-! ## NOP and status (R190 to R199) -/

theorem test_nop :
    returned (exec .nop sha1Done) = some [(0, 0)] ∧ left (exec .nop sha1Done) = some sha1Done.ctx := by decide
theorem test_rdstatus_crc32 : returned (exec .rdstatusCrc32 (crcAt 0xE8B7BE43 true)) = some [(1, 0)] := by decide
theorem test_rdstatus_md5_three_bytes : returned (exec .rdstatusMd5 (md5At (bufA 3) 3)) = some [(0x0300, 0)] := by decide
theorem test_rdstatus_md5_done : returned (exec .rdstatusMd5 md5Done) = some [(0x0001, 0)] := by decide
theorem test_rdstatus_sha1_tail_63 : returned (exec .rdstatusSha1 (sha1At (bufA 63) 63)) = some [(0x3F00, 0)] := by decide
theorem test_rdstatus_sha256_tail_1 : returned (exec .rdstatusSha256 (sha256At (bufA 1) 1)) = some [(0x0100, 0)] := by
  decide
theorem test_rdcount_md5 :
    returned (exec .rdcountMd5 (State.reset.withMd5 (midway initMd5 (bufA 1) 1 64))) = some [(64, 0)] := by decide
theorem test_rdcount_sha1 : returned (exec .rdcountSha1 sha1Done) = some [(1, 0)] := by decide
theorem test_rdcount_sha256 :
    returned (exec .rdcountSha256 (State.reset.withSha256 (midway initSha256 [] 0 128))) = some [(128, 0)] := by decide

/-! ## CRC32 (section 3) -/

theorem test_crc_table_spot_checks :
    crcTableAt 0x00 = 0x00000000 ∧ crcTableAt 0x01 = 0x77073096 ∧ crcTableAt 0x80 = 0xEDB88320 ∧
      crcTableAt 0x9E = 0x17B7BE43 ∧ crcTableAt 0xDE = 0x616BFFD3 ∧ crcTableAt 0xF1 = 0xCABAC28A ∧
      crcTableAt 0xFF = 0x2D02EF8D := by decide

set_option maxRecDepth 100000 in
/-- R170: the ROM is what its generation rule gives. -/
theorem test_crc_table_is_generated : crcTable = (List.range 256).map fun k => crcTableEntry (BitVec.ofNat 8 k) := by
  decide

theorem test_reset_crc32 :
    (left (exec .resetCrc32 (crcAt 0xE8B7BE43 true))).map (·.crc32) = some { crc := 0xFFFFFFFF, done := false } := by
  decide
theorem test_process_crc32_a :
    (left (exec (.processCrc32 0x61) State.reset)).map (·.crc32) = some { crc := 0x174841BC, done := false } := by decide
theorem test_process_crc32_zero_and_ff :
    (left (exec (.processCrc32 0x00) State.reset)).map (·.crc32.crc) = some 0x2DFD1072 ∧
      (left (exec (.processCrc32 0xFF) State.reset)).map (·.crc32.crc) = some 0x00FFFFFF := by decide
theorem test_finalize_crc32 :
    (left (exec .finalizeCrc32 (crcAt 0x174841BC false))).map (·.crc32) = some { crc := 0xE8B7BE43, done := true } := by
  decide
theorem test_finalize_crc32_twice :
    returned (exec .finalizeCrc32 (crcAt 0xE8B7BE43 true)) = some [(0, 1)] ∧
      left (exec .finalizeCrc32 (crcAt 0xE8B7BE43 true)) = some (crcAt 0xE8B7BE43 true).ctx := by decide
theorem test_rddigest_crc32_bytes :
    returned (exec (.rddigestCrc32 0) (crcAt 0xE8B7BE43 true)) = some [(0xE8, 0)] ∧
      returned (exec (.rddigestCrc32 3) (crcAt 0xE8B7BE43 true)) = some [(0x43, 0)] := by decide
theorem test_rddigest_crc32_errors :
    returned (exec (.rddigestCrc32 4) (crcAt 0xE8B7BE43 true)) = some [(0, 3)] ∧
      returned (exec (.rddigestCrc32 0) (crcAt 0x174841BC false)) = some [(0, 1)] := by decide

/-! ## Compression cores: the block of the empty message (S1, S3, S4) and the round check values of R112 -/

def blockOfEmpty : List Byte := 0x80 :: List.replicate 63 0

theorem test_md5_first_round :
    md5Rounds (wordsLe blockOfEmpty) (md5Start initMd5) 1 =
      { a := 0x10325476, b := 0xA5202774, c := 0xEFCDAB89, d := 0x98BADCFE } := by decide

set_option maxRecDepth 100000 in
theorem test_sha1_schedule_values :
    ((sha1Schedule blockOfEmpty).drop 16).take 4 = [0x00000001, 0x00000000, 0x00000000, 0x00000002] ∧
      (sha1Schedule blockOfEmpty).getD 79 0 = 0x00200080 := by decide

set_option maxRecDepth 100000 in
theorem test_sha256_schedule_values :
    ((sha256Schedule blockOfEmpty).drop 16).take 4 = [0x80000000, 0x00000000, 0x00205000, 0x00000000] ∧
      (sha256Schedule blockOfEmpty).getD 63 0 = 0x3B5EC49B := by decide

/-! ## MD5 -/

theorem test_reset_md5 : (left (exec .resetMd5 md5Done)).map (·.md5) = some State.reset.ctx.md5 := by decide
theorem test_process_md5_a :
    (left (exec (.processMd5 0x61) State.reset)).map (·.md5) = some (midway initMd5 [(0, 0x61)] 1 0) := by decide
set_option maxRecDepth 100000 in
/-- A x 64, section 4.3: the 64th byte compresses. -/
theorem test_process_md5_fills :
    (left (exec (.processMd5 0x41) (md5At (bufA 63) 63))).map (·.md5) =
      some (midway #v[0x18E717B2, 0x5FFE635A, 0xA6E63F64, 0x59BF01D4] [] 0 64) := by decide
set_option maxRecDepth 100000 in
/-- A x 63: case B; the last block has its length field least significant byte first. -/
theorem test_finalize_md5_case_b :
    (left (exec .finalizeMd5 (md5At (bufA 63) 63))).map (·.md5) =
      some { h := #v[0xB24B1C5F, 0xA5710497, 0xA17B5BC7, 0xEDE39EDC], buf := [(56, 0xF8), (57, 0x01)], tail := 0,
             total := 63, done := true } := by decide
set_option maxRecDepth 100000 in
/-- "a" with `MD5_LENGTH_BIG_ENDIAN` true: the digest `f0b1c87c...` of section 4.1. -/
theorem test_finalize_md5_big_endian_length :
    (left (exec .finalizeMd5 { md5At [(0, 0x61)] 1 with cfg := ⟨true⟩ })).map (·.md5.h) =
      some #v[0x7CC8B1F0, 0xD4D320FC, 0xC0C2B3CA, 0x9F775C94] := by decide
theorem test_rddigest_md5_bytes :
    returned (exec (.rddigestMd5 0) md5Done) = some [(0xD4, 0)] ∧
      returned (exec (.rddigestMd5 3) md5Done) = some [(0xD9, 0)] ∧
      returned (exec (.rddigestMd5 15) md5Done) = some [(0x7E, 0)] := by decide
theorem test_rddigest_md5_index : returned (exec (.rddigestMd5 16) md5Done) = some [(0, 3)] := by decide

/-! ## SHA-1 -/

theorem test_reset_sha1 : (left (exec .resetSha1 sha1Done)).map (·.sha1) = some State.reset.ctx.sha1 := by decide
set_option maxRecDepth 100000 in
/-- A x 64, section 4.3. -/
theorem test_process_sha1_fills :
    (left (exec (.processSha1 0x41) (sha1At (bufA 63) 63))).map (·.sha1) =
      some (midway #v[0x902CBF65, 0xC5F85EE1, 0x1F5186E0, 0x36509311, 0x81F8C8B4] [] 0 64) := by decide
theorem test_process_sha1_after_finalize :
    returned (exec (.processSha1 0x62) sha1Done) = some [(0, 1)] ∧
      left (exec (.processSha1 0x62) sha1Done) = some sha1Done.ctx := by decide
set_option maxRecDepth 100000 in
/-- A x 56: case B. -/
theorem test_finalize_sha1_case_b :
    (left (exec .finalizeSha1 (sha1At (bufA 56) 56))).map (·.sha1) =
      some { h := #v[0x6B45E3CF, 0x1EB3324B, 0x9FD4DF3B, 0x83D89C4C, 0x2C4CA896], buf := [(62, 0x01), (63, 0xC0)],
             tail := 0, total := 56, done := true } := by decide
/-- Section 4.5: the bit length of 2^61 + 3 bytes wraps to 0x18. -/
theorem test_length_wraps :
    messageBytes (midway initSha1 (bufA 3) 3 0x2000000000000000) = 0x2000000000000003 ∧
      bytesBe64 (messageBits (midway initSha1 (bufA 3) 3 0x2000000000000000)) = [0, 0, 0, 0, 0, 0, 0, 0x18] := by decide
theorem test_rddigest_sha1_last_byte : returned (exec (.rddigestSha1 19) sha1Done) = some [(0xB8, 0)] := by decide
/-- Section 5.2: InvalidState before InvalidIndex. -/
theorem test_rddigest_sha1_priority :
    returned (exec (.rddigestSha1 200) State.reset) = some [(0, 1)] ∧
      returned (exec (.rddigestSha1 20) sha1Done) = some [(0, 3)] := by decide

/-! ## SHA-256 -/

theorem test_reset_sha256 : (left (exec .resetSha256 sha256Done)).map (·.sha256) = some State.reset.ctx.sha256 := by
  decide
set_option maxRecDepth 100000 in
/-- A x 64, section 4.3 and program P3. -/
theorem test_process_sha256_fills :
    (left (exec (.processSha256 0x41) (sha256At (bufA 63) 63))).map (·.sha256) =
      some (midway #v[0x6CB72441, 0x02F65790, 0x145141E1, 0x05D2C3D3, 0x87A1D91E, 0x9CEDA13A, 0x4A3D25DD, 0x87BEEA05]
        [] 0 64) := by decide
set_option maxRecDepth 100000 in
/-- A x 55: case A without a zero byte between 0x80 and the length. -/
theorem test_finalize_sha256_case_a :
    (left (exec .finalizeSha256 (sha256At (bufA 55) 55))).map (·.sha256) =
      some { h := #v[0x8963CC0A, 0xFD622CC7, 0x574AC201, 0x1F93A305, 0x9B3D6554, 0x8A77542A, 0x1559E3D2, 0x02E6AB00],
             buf := bufA 55 ++ [(55, 0x80), (62, 0x01), (63, 0xB8)], tail := 0, total := 55, done := true } := by decide
theorem test_rddigest_sha256_bytes :
    returned (exec (.rddigestSha256 0) sha256Done) = some [(0xE3, 0)] ∧
      returned (exec (.rddigestSha256 31) sha256Done) = some [(0x55, 0)] := by decide
theorem test_rddigest_sha256_index : returned (exec (.rddigestSha256 32) sha256Done) = some [(0, 3)] := by decide

/-! ## The step -/

/-- Section 5.2, step 9: an illegal word while finalised. -/
theorem test_step_illegal_word :
    returned (step (issuing sha1Done 0x3801)) = some [(0, 2)] ∧ left (step (issuing sha1Done 0x3801)) = some sha1Done.ctx :=
  by decide
theorem test_step_hardware_reset :
    left (step (sha256Done.issueFirst .hardwareReset)) = some State.reset.ctx ∧
      returned (step (sha256Done.issueFirst .hardwareReset)) = some [] := by decide
theorem test_step_nothing_issued : after (step State.reset) = some State.reset := by decide
/-- The host's numbering: bit 0 of the number is bit 0 of CMD. -/
theorem test_withFetchWord :
    decodeTableWord 16 0x2461 = some (.processMd5 0x61) ∧
      after (step (State.reset.withFetchWord 16 0x2461)) = after (exec (.processMd5 0x61) State.reset) := by decide
/-- The interface runs the same step. -/
theorem test_core_step : after (core.step (State.reset.withFetchWord 16 0x5000)) =
    after (exec .rdstatusCrc32 State.reset) := by decide

/-! ## Witnesses: concrete states and operands that meet the hypotheses of a statement, clause by clause -/

theorem witness_EncodeOfDecodedIsTheWord : decode 0x98FF = .ok (.rotl32 255) := by decide

theorem witness_StepRunsTheDecodedCommand :
    (issuing State.reset 0x2861).port.inputs = [.command 0x2861 0] ∧ decode 0x2861 = .ok (.processSha1 0x61) := by decide

/-- Also of the second clause of `ErrIsThatOfTheErrorTable`. -/
theorem witness_IllegalWordRaisesInvalidCommand :
    (issuing State.reset 0x7000).port.inputs = [.command 0x7000 0] ∧ ∀ i, decode 0x7000 ≠ .ok i :=
  ⟨rfl, fun i h => by rw [show decode 0x7000 = .error .reservedOp by decide] at h; cases h⟩

theorem witness_StepWithNothingIssuedChangesNothing : State.reset.port.inputs = [] := by decide

/-- Also of the first clause of `ErrIsThatOfTheErrorTable`. -/
theorem witness_EveryCommandCompletesWithOneResponse :
    (issuing sha1Done 0x48C8).port.inputs = [.command 0x48C8 0] ∧ decode 0x48C8 = .ok (.rddigestSha1 200) := by decide

theorem witness_BswapReversesTheBytes_last_byte : 1 < 2 ∧ 3 < 4 ∧ 7 < 8 := by decide

theorem witness_RotationLaws : 0 < 16 ∧ 0 < 32 ∧ 0 < 64 := by decide

theorem witness_ProcessCrc32_open : State.reset.ctx.crc32.done = false := by decide

theorem witness_ProcessCrc32_done : (crcAt 0xE8B7BE43 true).ctx.crc32.done = true := by decide

theorem witness_FinalizeCrc32InvertsOnce_both :
    (crcAt 0x174841BC false).ctx.crc32.done = false ∧ (crcAt 0xE8B7BE43 true).ctx.crc32.done = true := by decide

/-- Index 3 is the last of the digest, 4 the first beyond it. -/
theorem witness_RddigestCrc32_clauses :
    (crcAt 0 true).ctx.crc32.done = true ∧ 4 ≤ (4 : Byte).toNat ∧ 4 ≤ (255 : Byte).toNat ∧
      (crcAt 0 false).ctx.crc32.done = false := by decide

/-- Open contexts at both sides of the clauses on TAIL (0 and 62; 63), and finalised ones. -/
theorem witness_ProcessAbsorbsOneByte_clauses :
    (md5At [] 0).ctx.md5.done = false ∧ (md5At [] 0).ctx.md5.tail.toNat < 63 ∧
      (sha1At (bufA 62) 62).ctx.sha1.done = false ∧ (sha1At (bufA 62) 62).ctx.sha1.tail.toNat < 63 ∧
      (sha256At (bufA 63) 63).ctx.sha256.done = false ∧ (sha256At (bufA 63) 63).ctx.sha256.tail.toNat = 63 ∧
      md5Done.ctx.md5.done = true ∧ sha1Done.ctx.sha1.done = true ∧ sha256Done.ctx.sha256.done = true := by decide

/-- The two cases of the padding at 0, 55, 56 and 63; finalised contexts are those of the theorem before. -/
theorem witness_FinalizePadsAndCompresses_clauses :
    (md5At [] 0).ctx.md5.done = false ∧ (md5At [] 0).ctx.md5.tail.toNat ≤ 55 ∧
      (sha256At (bufA 55) 55).ctx.sha256.done = false ∧ (sha256At (bufA 55) 55).ctx.sha256.tail.toNat ≤ 55 ∧
      (sha1At (bufA 56) 56).ctx.sha1.done = false ∧ 56 ≤ (sha1At (bufA 56) 56).ctx.sha1.tail.toNat ∧
      (md5At (bufA 63) 63).ctx.md5.done = false ∧ 56 ≤ (md5At (bufA 63) 63).ctx.md5.tail.toNat := by decide

/-- The first index beyond each digest, and 255. -/
theorem witness_RddigestReturnsTheDigestByte_clauses :
    md5Done.ctx.md5.done = true ∧ 16 ≤ (16 : Byte).toNat ∧ sha1Done.ctx.sha1.done = true ∧ 20 ≤ (20 : Byte).toNat ∧
      sha256Done.ctx.sha256.done = true ∧ 32 ≤ (32 : Byte).toNat ∧ 32 ≤ (255 : Byte).toNat ∧
      State.reset.ctx.md5.done = false ∧ State.reset.ctx.sha1.done = false ∧ State.reset.ctx.sha256.done = false := by
  decide

/-- The ranges of rounds meet without overlap: MD5 at 15/16, 31/32, 47/48, SHA-1 at 19/20, 39/40, 59/60, and the
schedules at 15/16. -/
theorem witness_rounds_at_the_ends_of_their_ranges :
    (15 < 16 ∧ 16 ≤ 16 ∧ 31 < 32 ∧ 32 ≤ 32 ∧ 47 < 48 ∧ 48 ≤ 48 ∧ 63 < 64) ∧
      (19 < 20 ∧ 20 ≤ 20 ∧ 39 < 40 ∧ 40 ≤ 40 ∧ 59 < 60 ∧ 60 ≤ 60 ∧ 79 < 80) := by decide

theorem witness_SixtyFourthByteCompressesAtOnce : (List.replicate 64 (0x41 : Byte)).length = 64 := by decide

theorem witness_FinalizedContext_each :
    (crcAt 0 true).ctx.doneOf .crc32 = true ∧ md5Done.ctx.doneOf .md5 = true ∧ sha1Done.ctx.doneOf .sha1 = true ∧
      sha256Done.ctx.doneOf .sha256 = true ∧ (3 : Byte).toNat < digestSize .crc32 ∧ (15 : Byte).toNat < digestSize .md5 ∧
      (19 : Byte).toNat < digestSize .sha1 ∧ (31 : Byte).toNat < digestSize .sha256 := by decide

theorem witness_FinalizedContextIsImmutableUntilReset :
    sha1Done.ctx.doneOf .sha1 = true ∧ resetOf .sha1 ∉ [.processSha1 0x62, .finalizeSha1, .resetMd5, .rddigestSha1 0] := by
  decide

/-- Section 5.2, step 1. -/
theorem witness_ErrorLeavesNoTrace :
    ∃ t, (issuing State.reset 0x48C8).port.inputs = [.command 0x48C8 0] ∧ step (issuing State.reset 0x48C8) = .next t ∧
      t.port.responses = (issuing State.reset 0x48C8).port.responses ++ [{ rdata := 0, err := 1 }] ∧
      (1 : BitVec 2) ≠ 0 := ⟨_, rfl, rfl, rfl, by decide⟩

theorem witness_HardwareReset : (sha1Done.issueFirst .hardwareReset).port.inputs = [.hardwareReset] := by decide

theorem witness_FourResets :
    [Instr.resetSha256, .resetMd5, .resetCrc32, .resetSha1].Perm [.resetCrc32, .resetMd5, .resetSha1, .resetSha256] := by
  decide

theorem witness_ContextsAreIndependent_frame :
    ∃ t, exec (.processMd5 0x61) sha1Done = .next t ∧ (Instr.processMd5 0x61).alg ≠ some .sha1 := ⟨_, rfl, by decide⟩

theorem witness_ContextsAreIndependent_same :
    ∃ t t', (Instr.processMd5 0x61).alg = some .md5 ∧ State.reset.cfg = sha1Done.cfg ∧
      SameContext State.reset.ctx sha1Done.ctx .md5 ∧ exec (.processMd5 0x61) State.reset = .next t ∧
      exec (.processMd5 0x61) sha1Done = .next t' := ⟨_, _, rfl, rfl, rfl, rfl, rfl⟩

theorem witness_ContextsAreIndependent_swap : (Instr.processMd5 0x61).alg ≠ (Instr.nop).alg := by decide

theorem witness_ReadsHaveNoSideEffects : readsOnly (.rddigestSha1 19) = true ∧ readsOnly .nop = true := by decide

theorem witness_DoneIsWritten : ∃ t, exec .finalizeCrc32 State.reset = .next t := ⟨_, rfl⟩

/-- A state with 62 bytes buffered whose next step stores one more. -/
theorem witness_EveryStepKeepsTheInvariant :
    (issuing (sha1At (bufA 62) 62) 0x2841).Inv ∧ ∃ t, step (issuing (sha1At (bufA 62) 62) 0x2841) = .next t :=
  ⟨by unfold State.Inv HashContext.Inv; decide, _, rfl⟩

end Sys2Proof.Tests
end

/-!
PROOFS. The decoder and the encoder: the rows of R53, decoding as the inverse of encoding, and the words of a command.
-/

namespace Sys2Proof

open Machine

/-! ## IMM8 within a command word -/

theorem toNat_imm8Field (c : CmdWord) : (imm8Field c).toNat = c.toNat % 2 ^ 8 := by simp [imm8Field]

theorem setWidth_imm8Field (c : CmdWord) : (imm8Field c).setWidth 16 = c &&& 0xFF := by
  apply BitVec.eq_of_toNat_eq
  rw [BitVec.toNat_setWidth, toNat_imm8Field, BitVec.toNat_and]
  exact (Nat.mod_eq_of_lt (by omega)).trans (Nat.and_two_pow_sub_one_eq_mod _ 8).symm

/-- The mask of a row with an immediate takes IMM8 off again. -/
theorem withImm_and_highMask (pat : CmdWord) (b : Byte) (hlow : imm8Field pat = 0) :
    withImm pat b &&& 0xFF00 = pat := by
  have hb : b.setWidth 16 &&& 0xFF00 = 0#16 := by
    have hmask : ∀ i < 8, (0xFF00#16).getLsbD i = false := by decide
    apply BitVec.eq_of_getLsbD_eq
    intro i hi
    by_cases h8 : i < 8
    · simp [hmask i h8]
    · simp [BitVec.getLsbD_of_ge b i (by omega)]
  have hpat : pat &&& 0xFF = 0#16 := by rw [← setWidth_imm8Field, hlow]; rfl
  calc withImm pat b &&& 0xFF00 = pat &&& 0xFF00 := by rw [withImm, BitVec.and_or_distrib_right, hb, BitVec.or_zero]
    _ = (pat &&& 0xFF00) ||| (pat &&& 0xFF) := by rw [hpat, BitVec.or_zero]
    _ = pat &&& BitVec.allOnes 16 := by rw [← BitVec.and_or_distrib_left]; rfl
    _ = pat := BitVec.and_allOnes

/-- IMM8 is added to the upper half, as the "match" column of R53 writes it. -/
theorem toNat_withImm (pat : CmdWord) (b : Byte) (hlow : imm8Field pat = 0) :
    (withImm pat b).toNat = pat.toNat + b.toNat := by
  have hmod : pat.toNat % 2 ^ 8 = 0 := by rw [← toNat_imm8Field, hlow]; rfl
  have hpat : pat.toNat = 2 ^ 8 * (pat.toNat / 2 ^ 8) := by omega
  have hb : b.toNat % 2 ^ 16 = b.toNat := Nat.mod_eq_of_lt (by omega)
  rw [withImm, BitVec.toNat_or, BitVec.toNat_setWidth, hb, hpat, ← Nat.two_pow_add_eq_or_of_lt b.isLt]

/-! ## The rows -/

theorem Row.selects_iff {r : Row} {c : CmdWord} : r.selects c = true ↔ c &&& r.mask = r.pat := by
  simp [Row.selects]

/-- A word that selects a row is the row's pattern with the word's own bits outside the mask. -/
theorem Row.eq_of_selects {r : Row} {c : CmdWord} (h : r.selects c = true) : r.pat ||| (c &&& ~~~r.mask) = c := by
  rw [← Row.selects_iff.mp h, ← BitVec.and_or_distrib_left, BitVec.or_not_self, BitVec.and_allOnes]

theorem Row.not_selects_of_disjoint {r q : Row} {c : CmdWord} (h : r.pat &&& q.mask ≠ q.pat &&& r.mask)
    (hr : r.selects c = true) : ¬ q.selects c = true := by
  intro hq
  rw [Row.selects_iff] at hr hq
  apply h
  rw [← hr, ← hq, BitVec.and_assoc, BitVec.and_assoc, BitVec.and_comm r.mask]

/-- "No two rows overlap" (R53): two patterns differ in a bit that both masks fix. -/
theorem opcodeRows_pairwise_disjoint :
    opcodeRows.Pairwise fun r q => r.pat &&& q.mask ≠ q.pat &&& r.mask := by decide

theorem encode_command_of_mem_opcodeRows (c : CmdWord) :
    ∀ r ∈ opcodeRows, encode (r.command (imm8Field c)) = r.pat ||| (c &&& ~~~r.mask) := by
  simp [opcodeRows, contextRows, readRows, bitOpRows, fixedRow, immRow, encode, withImm, setWidth_imm8Field]

/-! ## Decoding -/

theorem decode_of_selects {c : CmdWord} {r : Row} (hr : r ∈ opcodeRows) (h : r.selects c = true) :
    decode c = .ok (r.command (imm8Field c)) := by
  have hfind : opcodeRows.find? (fun q => q.selects c) = some r := by
    cases hq : opcodeRows.find? (fun q => q.selects c) with
    | none => exact absurd h (List.find?_eq_none.mp hq r hr)
    | some q =>
      by_contra hne
      have : Std.Symm fun r q : Row => r.pat &&& q.mask ≠ q.pat &&& r.mask := ⟨fun _ _ h => h.symm⟩
      have hdisj := opcodeRows_pairwise_disjoint.forall hr (List.mem_of_find?_eq_some hq)
        (fun heq => hne (congrArg some heq.symm))
      have hsel : q.selects c = true := by simpa using List.find?_some hq
      exact Row.not_selects_of_disjoint hdisj h hsel
  rw [decode, hfind]

theorem exists_row_of_decode {c : CmdWord} {i : Instr} (h : decode c = .ok i) :
    ∃ r ∈ opcodeRows, r.selects c = true ∧ r.command (imm8Field c) = i := by
  unfold decode at h
  split at h
  · next r hr => exact ⟨r, List.mem_of_find?_eq_some hr, by simpa using List.find?_some hr, Except.ok.inj h⟩
  · cases h

theorem decode_withImm {pat : CmdWord} {command : Byte → Instr} (hmem : immRow pat command ∈ opcodeRows)
    (hlow : imm8Field pat = 0) (b : Byte) : decode (withImm pat b) = .ok (command b) := by
  rw [decode_of_selects hmem (Row.selects_iff.mpr (withImm_and_highMask pat b hlow)), imm8Field_withImm pat b hlow]
  rfl

theorem encode_of_decode {c : CmdWord} {i : Instr} (h : decode c = .ok i) : encode i = c := by
  obtain ⟨r, hr, hsel, rfl⟩ := exists_row_of_decode h
  rw [encode_command_of_mem_opcodeRows c r hr, Row.eq_of_selects hsel]

theorem decode_encode (i : Instr) : decode (encode i) = .ok i := by
  cases i with
  | processCrc32 b | processMd5 b | processSha1 b | processSha256 b | rddigestCrc32 b | rddigestMd5 b | rddigestSha1 b
  | rddigestSha256 b | rotl16 b | rotl32 b | rotl64 b | rotr16 b | rotr32 b | rotr64 b =>
    exact decode_withImm (by simp [opcodeRows, contextRows, readRows, bitOpRows]) (by decide) b
  | nop | resetCrc32 | resetMd5 | resetSha1 | resetSha256 | finalizeCrc32 | finalizeMd5 | finalizeSha1 | finalizeSha256
  | rdstatusCrc32 | rdstatusMd5 | rdstatusSha1 | rdstatusSha256 | rdcountMd5 | rdcountSha1 | rdcountSha256
  | bswap16 | bswap32 | bswap64 => rfl

theorem decode_eq_ok_iff {c : CmdWord} {i : Instr} : decode c = .ok i ↔ c = encode i :=
  ⟨fun h => (encode_of_decode h).symm, fun h => h ▸ decode_encode i⟩

/-! ## The words of a command -/

theorem encodedAs_encode (i : Instr) : EncodedAs i (encode i) := fun _ => decode_eq_ok_iff

theorem encodedWithImm_of_encode {command : Byte → Instr} (pat : CmdWord)
    (henc : ∀ b, encode (command b) = withImm pat b) (hlow : imm8Field pat = 0) :
    EncodedWithImm command pat.toNat := by
  intro c b
  rw [decode_eq_ok_iff, henc, ← toNat_withImm pat b hlow, BitVec.toNat_inj]

end Sys2Proof

/-!
PROOFS. The bit operations (spec/40_bitops.md): byte reversal by the bytes of the result, rotation on numbers, and the
statements of the file.
-/

namespace Sys2Proof.Machine

/-- A command that ends with a value returns it and nothing else. -/
theorem returnsOnly_of_respond {i : Instr} {s : State} {v : DWord} (h : exec i s = respond v s) : ReturnsOnly i s v :=
  ⟨s.answered v .ok, h, ⟨rfl, rfl⟩, rfl⟩

/-! ## The bytes of a value -/

theorem eq_of_bytes_eq {W n : Nat} (hW : W ≤ 8 * n) {x y : BitVec W}
    (h : ∀ k < n, x.extractLsb' (8 * k) 8 = y.extractLsb' (8 * k) 8) : x = y := by
  apply BitVec.eq_of_getLsbD_eq
  intro i hi
  have hbit := congrArg (fun b : Byte => b.getLsbD (i % 8)) (h (i / 8) (by omega))
  simpa [Nat.mod_lt, Nat.div_add_mod] using hbit

theorem extractLsb'_append_byte {w : Nat} (x : BitVec w) (b : Byte) (k : Nat) :
    (x ++ b).extractLsb' (8 * k) 8 = if k = 0 then b else x.extractLsb' (8 * (k - 1)) 8 := by
  split
  · next h => rw [h]; exact BitVec.extractLsb'_append_eq_right
  · rw [BitVec.extractLsb'_append_eq_of_le (by omega), Nat.mul_sub]

theorem be32_byte (b0 b1 b2 b3 : Byte) {k : Nat} (hk : k < 4) :
    (be32 b0 b1 b2 b3).extractLsb' (8 * k) 8 = [b3, b2, b1, b0][k] := by
  rw [be32]
  iterate 3 rw [extractLsb'_append_byte]
  interval_cases k <;> simp

theorem le32_eq_be32 (b0 b1 b2 b3 : Byte) : le32 b0 b1 b2 b3 = be32 b3 b2 b1 b0 := rfl

/-! ## Byte reversal -/

/-- Byte `k` of the result is byte `n - 1 - k` of the operand, for the `n` bytes of it. -/
def ReversesBytes {W : Nat} (n : Nat) (f : BitVec W → BitVec W) : Prop :=
  ∀ x, ∀ k < n, (f x).extractLsb' (8 * k) 8 = x.extractLsb' (8 * (n - 1 - k)) 8

theorem byteSwap16_reversesBytes : ReversesBytes 2 byteSwap16 := by
  intro x k hk
  rw [byteSwap16, extractLsb'_append_byte]
  interval_cases k <;> simp

theorem byteSwap32_reversesBytes : ReversesBytes 4 byteSwap32 := by
  intro x k hk
  rw [byteSwap32]
  iterate 3 rw [extractLsb'_append_byte]
  interval_cases k <;> simp

theorem byteSwap64_reversesBytes : ReversesBytes 8 byteSwap64 := by
  intro x k hk
  rw [byteSwap64]
  iterate 7 rw [extractLsb'_append_byte]
  interval_cases k <;> simp

section
variable {W n : Nat} {f : BitVec W → BitVec W}

theorem ReversesBytes.involutive (hf : ReversesBytes n f) (hW : W ≤ 8 * n) (x : BitVec W) : f (f x) = x := by
  apply eq_of_bytes_eq hW
  intro k hk
  rw [hf (f x) k hk, hf x _ (by omega), Nat.sub_sub_self (by omega)]

/-- The bytes of RDATA when the low `W` bits of WDATA are reversed and zero-extended. -/
theorem ReversesBytes.zext64_byte (hf : ReversesBytes n f) (hW : 8 * n ≤ W) (hn : n ≤ 8) (x : DWord) {k : Nat}
    (hk : k < n) :
    (zext64 (f (x.extractLsb' 0 W))).extractLsb' (8 * k) 8 = x.extractLsb' (8 * (n - 1 - k)) 8 := by
  rw [zext64, BitVec.extractLsb'_setWidth_of_le (by omega), hf _ k hk, BitVec.extractLsb'_extractLsb'_of_le (by omega)]

theorem toNat_zext64_lt (x : BitVec W) : (zext64 x).toNat < 2 ^ W :=
  calc (zext64 x).toNat ≤ x.toNat := by rw [zext64, BitVec.toNat_setWidth]; exact Nat.mod_le _ _
    _ < 2 ^ W := x.isLt

end

theorem byteSwap32_be32 (b0 b1 b2 b3 : Byte) : byteSwap32 (be32 b0 b1 b2 b3) = le32 b0 b1 b2 b3 := by
  apply eq_of_bytes_eq (n := 4) (by decide)
  intro k hk
  rw [byteSwap32_reversesBytes _ k hk, be32_byte _ _ _ _ (by omega), le32_eq_be32, be32_byte _ _ _ _ hk]
  interval_cases k <;> rfl

theorem bytesLe64_eq_bytesBe64_byteSwap64 (v : DWord) : bytesLe64 v = bytesBe64 (byteSwap64 v) :=
  calc bytesLe64 v = (List.range 8).map fun k => v.extractLsb' (8 * k) 8 := rfl
    _ = (List.range 8).map fun k => (byteSwap64 v).extractLsb' (8 * (7 - k)) 8 := by
        apply List.map_congr_left
        intro k hk
        have hk : k < 8 := List.mem_range.mp hk
        rw [byteSwap64_reversesBytes v _ (by omega), Nat.sub_sub_self (by omega)]
    _ = bytesBe64 (byteSwap64 v) := rfl

theorem returnsOnly_bswap64 (s : State) : ReturnsOnly .bswap64 s (byteSwap64 s.port.wdata) := by
  have h := returnsOnly_of_respond (i := .bswap64) (s := s) (v := zext64 (byteSwap64 s.port.wdata)) rfl
  rwa [zext64, BitVec.setWidth_eq] at h

/-! ## Rotation on numbers -/

theorem toNat_rotl {W : Nat} (x : BitVec W) (n : Nat) : (rotl x n).toNat = rotlNat W x.toNat n := by
  unfold rotl rotlNat
  split
  · rfl
  · have hhigh : x.toNat >>> (W - n % W) < 2 ^ W := (Nat.shiftRight_le _ _).trans_lt x.isLt
    rw [BitVec.toNat_or, BitVec.toNat_shiftLeft, BitVec.toNat_ushiftRight, Nat.or_mod_two_pow, Nat.mod_eq_of_lt hhigh]

theorem toNat_rotr {W : Nat} (x : BitVec W) (n : Nat) : (rotr x n).toNat = rotrNat W x.toNat n := by
  unfold rotr rotrNat
  split
  · rfl
  · have hlow : x.toNat >>> (n % W) < 2 ^ W := (Nat.shiftRight_le _ _).trans_lt x.isLt
    rw [BitVec.toNat_or, BitVec.toNat_ushiftRight, BitVec.toNat_shiftLeft, Nat.or_mod_two_pow, Nat.mod_eq_of_lt hlow]

theorem zext64_eq_ofNat {w : Nat} (x : BitVec w) : zext64 x = BitVec.ofNat 64 x.toNat :=
  (BitVec.ofNat_toNat 64 x).symm

theorem toNat_operand16 (s : State) : (operand16 s).toNat = s.port.wdata.toNat % 2 ^ 16 := by simp [operand16]

theorem toNat_operand32 (s : State) : (operand32 s).toNat = s.port.wdata.toNat % 2 ^ 32 := by simp [operand32]

section
variable {W m n : Nat} {x : BitVec W} {i : Instr} {s : State}

/-- A command that ends with an operand rotated left returns `rotl_W` of its number. -/
theorem returnsOnly_of_rotl (hexec : exec i s = respond (zext64 (rotl x n)) s) (hx : x.toNat = m) :
    ReturnsOnly i s (BitVec.ofNat 64 (rotlNat W m n)) := by
  rw [← hx, ← toNat_rotl, ← zext64_eq_ofNat]
  exact returnsOnly_of_respond hexec

/-- A command that ends with an operand rotated right returns `rotr_W` of its number. -/
theorem returnsOnly_of_rotr (hexec : exec i s = respond (zext64 (rotr x n)) s) (hx : x.toNat = m) :
    ReturnsOnly i s (BitVec.ofNat 64 (rotrNat W m n)) := by
  rw [← hx, ← toNat_rotr, ← zext64_eq_ofNat]
  exact returnsOnly_of_respond hexec

end

/-! ## The statements -/

/-- Settles O15, by the bytes of the three swaps. -/
theorem bswapReversesTheBytes : Obligations.BswapReversesTheBytes := by
  unfold Obligations.BswapReversesTheBytes
  refine ⟨encodedAs_encode .bswap16, encodedAs_encode .bswap32, encodedAs_encode .bswap64,
    fun s => ⟨⟨_, returnsOnly_of_respond rfl, toNat_zext64_lt _, ?_⟩,
      ⟨_, returnsOnly_of_respond rfl, toNat_zext64_lt _, ?_⟩,
      ⟨_, returnsOnly_bswap64 s, byteSwap64_reversesBytes s.port.wdata⟩⟩,
    byteSwap16_reversesBytes.involutive (by decide), byteSwap32_reversesBytes.involutive (by decide),
    byteSwap64_reversesBytes.involutive (by decide), byteSwap32_be32, bytesLe64_eq_bytesBe64_byteSwap64⟩
  · intro k hk
    exact byteSwap16_reversesBytes.zext64_byte (by decide) (by decide) s.port.wdata hk
  · intro k hk
    exact byteSwap32_reversesBytes.zext64_byte (by decide) (by decide) s.port.wdata hk

/-- Settles O16, by the value of a left rotation on numbers. -/
theorem rotlRotatesLeftByTheCountModTheWidth : Obligations.RotlRotatesLeftByTheCountModTheWidth := by
  unfold Obligations.RotlRotatesLeftByTheCountModTheWidth
  exact ⟨encodedWithImm_of_encode 0x9400 (fun _ => rfl) (by decide),
    encodedWithImm_of_encode 0x9800 (fun _ => rfl) (by decide),
    encodedWithImm_of_encode 0x9C00 (fun _ => rfl) (by decide),
    fun s _ => ⟨returnsOnly_of_rotl rfl (toNat_operand16 s), returnsOnly_of_rotl rfl (toNat_operand32 s),
      returnsOnly_of_rotl (x := operand64 s) rfl rfl⟩⟩

/-- Settles O17, by the value of a right rotation on numbers. -/
theorem rotrRotatesRightByTheCountModTheWidth : Obligations.RotrRotatesRightByTheCountModTheWidth := by
  unfold Obligations.RotrRotatesRightByTheCountModTheWidth
  exact ⟨encodedWithImm_of_encode 0xA400 (fun _ => rfl) (by decide),
    encodedWithImm_of_encode 0xA800 (fun _ => rfl) (by decide),
    encodedWithImm_of_encode 0xAC00 (fun _ => rfl) (by decide),
    fun s _ => ⟨returnsOnly_of_rotr rfl (toNat_operand16 s), returnsOnly_of_rotr rfl (toNat_operand32 s),
      returnsOnly_of_rotr (x := operand64 s) rfl rfl⟩⟩

end Sys2Proof.Machine

/-!
PROOFS. The block buffer (spec/41_block_buffer.md): blocks read back after a write, the engine's procedures in the words
of R92, R94 and R97, how a command that writes or reads one context ends, and the statements of the file.
-/

namespace Sys2Proof.Machine

/-! ## Blocks read from a buffer -/

namespace Memory

theorem readBytes_append (m : Memory) (a i j : Nat) :
    readBytes m a (i + j) = readBytes m a i ++ readBytes m (a + i) j := by
  simp [readBytes, List.range_add, Function.comp_def, Nat.add_assoc]

theorem readBytes_eq_of_getD {m : Memory} {a : Nat} {bytes : List Byte}
    (h : ∀ k < bytes.length, read m (a + k) = bytes.getD k 0) : readBytes m a bytes.length = bytes := by
  apply List.ext_getElem (length_readBytes ..)
  intro k _ hk
  simpa [readBytes, hk] using h k hk

theorem readBytes_congr {m m' : Memory} {a n : Nat} (h : ∀ k < n, read m (a + k) = read m' (a + k)) :
    readBytes m a n = readBytes m' a n :=
  List.map_congr_left fun k hk => h k (List.mem_range.mp hk)

theorem readBytes_eq_replicate {m : Memory} {a n : Nat} {v : Byte} (h : ∀ k < n, read m (a + k) = v) :
    readBytes m a n = List.replicate n v :=
  List.eq_replicate_iff.mpr ⟨length_readBytes .., by simpa [readBytes] using h⟩

/-- Bytes written at address `k` stand behind the `k` bytes below them. -/
theorem readBytes_writeBytes (m : Memory) (k : Nat) (bytes : List Byte) :
    readBytes (writeBytes m k bytes) 0 (k + bytes.length) = readBytes m 0 k ++ bytes := by
  have hlow : readBytes (writeBytes m k bytes) 0 k = readBytes m 0 k := by
    apply readBytes_congr
    intro a ha
    rw [read_writeBytes, if_neg (by omega)]
  have hhigh : readBytes (writeBytes m k bytes) (0 + k) bytes.length = bytes := by
    apply readBytes_eq_of_getD
    intro a ha
    rw [read_writeBytes, if_pos (by omega), show 0 + k + a - k = a by omega]
  rw [readBytes_append, hlow, hhigh]

end Memory

/-! ## The engine -/

section
variable {n : Nat} (e : Engine n)

/-- R92: what the engine does with a byte is what the rule says is read before and after. -/
theorem absorbsByte_absorb (b : Byte) (c : HashContext n) : AbsorbsByte e.compress b c (absorb e b c) := by
  refine ⟨absorb_done e b c, fun hlt => ?_, fun heq => ?_⟩
  · have hne : c.tail ≠ 63 := fun h => absurd (congrArg BitVec.toNat h) (Nat.ne_of_lt hlt)
    rw [absorb_of_tail_ne e b c hne]
    refine ⟨rfl, rfl, ?_, fun a => Memory.read_write ..⟩
    rw [BitVec.toNat_add]
    exact Nat.mod_eq_of_lt (Nat.succ_lt_succ hlt)
  · rw [absorb_of_tail_eq e b c (BitVec.eq_of_toNat_eq heq)]
    exact ⟨congrArg (e.compress c.h) (Memory.readBytes_writeBytes c.buf 63 [b]), rfl, rfl, Memory.read_zeroed⟩

/-- The padded block up to any address from TAIL on: the message bytes, 0x80, zeros. -/
theorem readBytes_padBuf (c : HashContext n) {k : Nat} (htail : c.tail.toNat ≤ k) (hk : k < 64) :
    Memory.readBytes (padBuf c) 0 (k + 1) =
      Memory.readBytes c.buf 0 c.tail.toNat ++ [0x80] ++ List.replicate (k - c.tail.toNat) 0 := by
  have hlow : Memory.readBytes (padBuf c) 0 c.tail.toNat = Memory.readBytes c.buf 0 c.tail.toNat := by
    apply Memory.readBytes_congr
    intro a ha
    rw [read_padBuf c _ (by omega), if_pos (by omega)]
  have hmark : Memory.readBytes (padBuf c) (0 + c.tail.toNat) 1 = [0x80] := by
    simp [Memory.readBytes, read_padBuf c c.tail.toNat (by omega)]
  have hzeros : Memory.readBytes (padBuf c) (0 + (c.tail.toNat + 1)) (k - c.tail.toNat) =
      List.replicate (k - c.tail.toNat) 0 := by
    apply Memory.readBytes_eq_replicate
    intro a ha
    rw [read_padBuf c _ (by omega), if_neg (by omega), if_neg (by omega)]
  rw [show k + 1 = c.tail.toNat + 1 + (k - c.tail.toNat) by omega, Memory.readBytes_append, Memory.readBytes_append,
    hlow, hmark, hzeros]

theorem messageBytes_eq_ofNat (c : HashContext n) :
    messageBytes c = BitVec.ofNat 64 (c.total.toNat + c.tail.toNat) := by
  apply BitVec.eq_of_toNat_eq
  simp [messageBytes]

/-- The length field the engine writes is that of R96. -/
theorem lenBytes_messageBits (lenBytes : DWord → List Byte) (c : HashContext n) :
    lenBytes (messageBits c) = lengthField lenBytes c := by
  rw [lengthField, messageBits, messageBytes_eq_ofNat, BitVec.ofNat_mul]
  rfl

/-- The last block ends with the length field (R32). -/
theorem readBytes_lastBuf (hlen : ∀ l, (e.lenBytes l).length = 8) (c : HashContext n) :
    Memory.readBytes (lastBuf e c) 0 64 =
      Memory.readBytes (padded e c).2 0 56 ++ lengthField e.lenBytes c := by
  have h := Memory.readBytes_writeBytes (padded e c).2 56 (e.lenBytes (messageBits c))
  rw [hlen] at h
  rw [← lenBytes_messageBits]
  exact h

/-- R94: what the engine does to finalise is what the rule says, with the blocks of R95. -/
theorem finalizes_finish (hlen : ∀ l, (e.lenBytes l).length = 8) (c : HashContext n) :
    Finalizes e.compress e.lenBytes c (finish e c) := by
  refine ⟨finish_done e c, finish_tail e c, messageBytes_eq_ofNat c, fun hle => ?_, fun hge => ?_⟩
  · have hpad : padded e c = (c.h, padBuf c) := if_neg (by omega)
    have hlast := readBytes_lastBuf e hlen c
    rw [hpad, readBytes_padBuf c hle (by decide)] at hlast
    refine ⟨_, rfl, ?_, hlast⟩
    rw [← hlast, finish, hpad]
  · have hpad : padded e c = (e.compress c.h (Memory.readBytes (padBuf c) 0 64), Memory.zeroed) := if_pos hge
    have hlast := readBytes_lastBuf e hlen c
    rw [hpad] at hlast
    refine ⟨_, _, rfl, rfl, ?_, hlast⟩
    rw [← readBytes_padBuf c (k := 63) (by omega) (by decide), finish, hpad, hlast]
    rfl

/-- R97 within the digest: byte `imm mod 4` of word `imm / 4`. -/
theorem engineReadDigest_of_lt (imm : Byte) (c : HashContext n) (hdone : c.done = true) (hi : imm.toNat < 4 * n) :
    engineReadDigest e imm c =
      .ok (zext64 ((e.wordBytes (c.h[imm.toNat / 4]'(by omega)))[imm.toNat % 4]'(Nat.mod_lt _ (by decide)))) := by
  simp [engineReadDigest, hdone, digestIndex, hi]

end

/-! ## The byte orders of the three engines (R38, R39, R90) -/

theorem length_bytesBe64 (v : DWord) : (bytesBe64 v).length = 8 := rfl

theorem length_lenBytesMd5 (cfg : Config) (l : DWord) : (lenBytesMd5 cfg l).length = 8 := by
  rw [lenBytesMd5]; split <;> rfl

theorem lenBytesMd5_eq_ite (cfg : Config) :
    lenBytesMd5 cfg = if cfg.md5LengthBigEndian then bytesBe64 else bytesLe64 := by
  funext l
  rw [lenBytesMd5]; split <;> rfl

theorem toNat_extractByte (w : Word) (k : Nat) : (w.extractLsb' k 8).toNat = w.toNat / 2 ^ k % 256 := by
  rw [BitVec.extractLsb'_toNat, Nat.shiftRight_eq_div_pow]

theorem toNat_bytesLe32 (w : Word) (j : Fin 4) : (bytesLe32 w)[j].toNat = w.toNat / 2 ^ (8 * j.val) % 256 := by
  fin_cases j <;> exact toNat_extractByte w _

theorem toNat_bytesBe32 (w : Word) (j : Fin 4) : (bytesBe32 w)[j].toNat = w.toNat / 2 ^ (24 - 8 * j.val) % 256 := by
  fin_cases j <;> exact toNat_extractByte w _

/-! ## How a command of one context ends -/

section
variable {i : Instr} {s : State}

theorem refusedWith_of_raise {err : Err} (hexec : exec i s = raise err s) : RefusedWith i s err.code :=
  ⟨s.answered 0 err, hexec, ⟨rfl, rfl⟩, rfl⟩

section
variable {α : Type} {put : State → α → State} {d : Bool} {r : α}
  (hexec : exec i s = finishWrite put (unlessDone d r) s)
include hexec

/-- PROCESS and FINALIZE of a finalised context. -/
theorem refusedWith_of_done (hd : d = true) : RefusedWith i s 1 := by
  rw [unlessDone_of_done r hd] at hexec
  exact refusedWith_of_raise (err := .invalidState) hexec

/-- PROCESS and FINALIZE of an open context complete in the state with the new context put in place; any
property `P` of that state may be asked for with it. -/
theorem completes_of_not_done {P : State → Prop} (hd : d = false) (hcfg : (put s r).cfg = s.cfg)
    (hport : (put s r).port = s.port) (hP : P ((put s r).answered 0 .ok)) :
    ∃ t, exec i s = .next t ∧ Answers s t 0 0 ∧ P t := by
  rw [unlessDone_of_not_done r hd] at hexec
  refine ⟨(put s r).answered 0 .ok, hexec, ⟨hcfg, ?_⟩, hP⟩
  rw [State.answered, hport]
  rfl

end

theorem returnsOnly_of_finishRead {r : Except Err DWord} {v : DWord} (hexec : exec i s = finishRead r s)
    (hr : r = .ok v) : ReturnsOnly i s v := by
  rw [hr] at hexec
  exact returnsOnly_of_respond hexec

end

/-! ## RDDIGEST of a hash context -/

section
variable {n : Nat} {e : Engine n} {c : HashContext n} {idx : Byte} {i : Instr} {s : State}
  (hexec : exec i s = finishRead (engineReadDigest e idx c) s)
include hexec

theorem refusedWith_of_readDigest_not_done (hd : c.done = false) : RefusedWith i s 1 := by
  rw [engineReadDigest_of_not_done e idx c hd] at hexec
  exact refusedWith_of_raise (err := .invalidState) hexec

theorem refusedWith_of_readDigest_index (hd : c.done = true) (hi : 4 * n ≤ idx.toNat) : RefusedWith i s 3 := by
  rw [engineReadDigest_of_index e idx c hd hi] at hexec
  exact refusedWith_of_raise (err := .invalidIndex) hexec

theorem exists_returnsOnly_of_readDigest (hd : c.done = true) (hi : idx.toNat < 4 * n) : ∃ v, ReturnsOnly i s v :=
  ⟨_, returnsOnly_of_finishRead hexec (engineReadDigest_of_lt e idx c hd hi)⟩

/-- The digest byte as a number, when `shift j` is where byte `j` of a word begins in it. -/
theorem returnsOnly_of_readDigest {shift : Fin 4 → Nat}
    (hbytes : ∀ (w : Word) (j : Fin 4), (e.wordBytes w)[j].toNat = w.toNat / 2 ^ shift j % 256)
    (hd : c.done = true) (k : Fin n) (j : Fin 4) (hidx : idx.toNat = 4 * k.val + j.val) :
    ReturnsOnly i s (BitVec.ofNat 64 (c.h[k.val].toNat / 2 ^ shift j % 256)) := by
  have hword : idx.toNat / 4 = k.val := by omega
  have hbyte : idx.toNat % 4 = j.val := by omega
  rw [← hbytes, ← zext64_eq_ofNat]
  apply returnsOnly_of_finishRead hexec
  rw [engineReadDigest_of_lt e idx c hd (by omega)]
  simp only [hword, hbyte]
  rfl

end

/-- The index of byte `j` of word `k` as IMM8. -/
theorem toNat_byteIndexOfWord {n : Nat} (hn : n ≤ 64) (k : Fin n) (j : Fin 4) :
    (BitVec.ofNat 8 (4 * k.val + j.val)).toNat = 4 * k.val + j.val :=
  Nat.mod_eq_of_lt (by omega)

/-! ## The commands of a finalised context (R99) -/

section
variable {s : State} {alg : Alg}

theorem refusedWith_processOf (b : Byte) (h : s.ctx.doneOf alg = true) : RefusedWith (processOf alg b) s 1 := by
  cases alg <;> exact refusedWith_of_done rfl h

theorem refusedWith_finalizeOf (h : s.ctx.doneOf alg = true) : RefusedWith (finalizeOf alg) s 1 := by
  cases alg <;> exact refusedWith_of_done rfl h

theorem exists_returnsOnly_rddigestOf {idx : Byte} (h : s.ctx.doneOf alg = true) (hi : idx.toNat < digestSize alg) :
    ∃ v, ReturnsOnly (rddigestOf alg idx) s v := by
  cases alg with
  | crc32 =>
    have hdone : s.ctx.crc32.done = true := h
    have hidx : digestIndex idx < 4 := hi
    exact ⟨_, returnsOnly_of_finishRead (r := readCrcDigest idx s.ctx.crc32) rfl
      (by rw [readCrcDigest, if_pos hdone, dif_pos hidx])⟩
  | md5 | sha1 | sha256 => exact exists_returnsOnly_of_readDigest rfl h hi

end

theorem exists_returnsOnly_rdstatusOf (s : State) (alg : Alg) : ∃ v, ReturnsOnly (rdstatusOf alg) s v := by
  cases alg <;> exact ⟨_, returnsOnly_of_respond rfl⟩

theorem resetOf_leaves_the_reset_context (s : State) (alg : Alg) :
    ∃ t, exec (resetOf alg) s = .next t ∧ SameContext t.ctx State.reset.ctx alg := by
  cases alg <;> exact ⟨_, rfl, rfl⟩

/-! ## The statements -/

/-- Settles O26, by what the engine does with a byte. -/
theorem processAbsorbsOneByte : Obligations.ProcessAbsorbsOneByte := by
  unfold Obligations.ProcessAbsorbsOneByte
  exact ⟨encodedWithImm_of_encode 0x2400 (fun _ => rfl) (by decide),
    encodedWithImm_of_encode 0x2800 (fun _ => rfl) (by decide),
    encodedWithImm_of_encode 0x2C00 (fun _ => rfl) (by decide),
    fun s b =>
      ⟨fun h => completes_of_not_done (put := .withMd5) (r := absorb (md5Engine s.cfg) b s.ctx.md5) rfl h rfl rfl
          ⟨rfl, absorbsByte_absorb (md5Engine s.cfg) b s.ctx.md5⟩,
        refusedWith_of_done rfl,
        fun h => completes_of_not_done (put := .withSha1) (r := absorb sha1Engine b s.ctx.sha1) rfl h rfl rfl
          ⟨rfl, absorbsByte_absorb sha1Engine b s.ctx.sha1⟩,
        refusedWith_of_done rfl,
        fun h => completes_of_not_done (put := .withSha256) (r := absorb sha256Engine b s.ctx.sha256) rfl h rfl rfl
          ⟨rfl, absorbsByte_absorb sha256Engine b s.ctx.sha256⟩,
        refusedWith_of_done rfl⟩⟩

/-- Settles O27, by what the engine does to finalise. -/
theorem finalizePadsAndCompresses : Obligations.FinalizePadsAndCompresses := by
  unfold Obligations.FinalizePadsAndCompresses
  refine ⟨encodedAs_encode .finalizeMd5, encodedAs_encode .finalizeSha1, encodedAs_encode .finalizeSha256,
    fun s =>
      ⟨fun h => completes_of_not_done (put := .withMd5) (r := finish (md5Engine s.cfg) s.ctx.md5) rfl h rfl rfl
          ⟨rfl, ?_⟩,
        refusedWith_of_done rfl,
        fun h => completes_of_not_done (put := .withSha1) (r := finish sha1Engine s.ctx.sha1) rfl h rfl rfl
          ⟨rfl, finalizes_finish sha1Engine length_bytesBe64 s.ctx.sha1⟩,
        refusedWith_of_done rfl,
        fun h => completes_of_not_done (put := .withSha256) (r := finish sha256Engine s.ctx.sha256) rfl h rfl rfl
          ⟨rfl, finalizes_finish sha256Engine length_bytesBe64 s.ctx.sha256⟩,
        refusedWith_of_done rfl⟩⟩
  rw [← lenBytesMd5_eq_ite]
  exact finalizes_finish (md5Engine s.cfg) (length_lenBytesMd5 s.cfg) s.ctx.md5

/-- Settles O28, by what the engine reads and the place of each byte in its word. -/
theorem rddigestReturnsTheDigestByte : Obligations.RddigestReturnsTheDigestByte := by
  unfold Obligations.RddigestReturnsTheDigestByte
  exact ⟨encodedWithImm_of_encode 0x4400 (fun _ => rfl) (by decide),
    encodedWithImm_of_encode 0x4800 (fun _ => rfl) (by decide),
    encodedWithImm_of_encode 0x4C00 (fun _ => rfl) (by decide),
    fun s =>
      ⟨fun h => ⟨fun k j => returnsOnly_of_readDigest (e := md5Engine s.cfg) rfl toNat_bytesLe32 h k j
            (toNat_byteIndexOfWord (by decide) k j),
          fun _ => refusedWith_of_readDigest_index rfl h⟩,
        fun h _ => refusedWith_of_readDigest_not_done rfl h,
        fun h => ⟨fun k j => returnsOnly_of_readDigest (e := sha1Engine) rfl toNat_bytesBe32 h k j
            (toNat_byteIndexOfWord (by decide) k j),
          fun _ => refusedWith_of_readDigest_index rfl h⟩,
        fun h _ => refusedWith_of_readDigest_not_done rfl h,
        fun h => ⟨fun k j => returnsOnly_of_readDigest (e := sha256Engine) rfl toNat_bytesBe32 h k j
            (toNat_byteIndexOfWord (by decide) k j),
          fun _ => refusedWith_of_readDigest_index rfl h⟩,
        fun h _ => refusedWith_of_readDigest_not_done rfl h⟩⟩

/-- Settles O36, by the cases of the context. -/
theorem finalizedContextTakesOnlyReadsAndReset : Obligations.FinalizedContextTakesOnlyReadsAndReset := by
  unfold Obligations.FinalizedContextTakesOnlyReadsAndReset
  exact ⟨fun s alg b _ h =>
      ⟨refusedWith_processOf b h, refusedWith_finalizeOf h, exists_returnsOnly_rddigestOf h,
        exists_returnsOnly_rdstatusOf s alg, resetOf_leaves_the_reset_context s alg⟩,
    fun _ => ⟨⟨_, returnsOnly_of_respond rfl⟩, ⟨_, returnsOnly_of_respond rfl⟩, ⟨_, returnsOnly_of_respond rfl⟩⟩⟩

end Sys2Proof.Machine

/-!
PROOFS. The CRC-32 commands (spec/45_crc32.md): what an open CRC32 context is left as, what is read from it, and the
statements of the file.
-/

namespace Sys2Proof.Machine

/-! ## A command that writes the CRC32 context (R174, R175) -/

/-- On an open context it leaves exactly the value it computed, in the CRC32 context alone. -/
theorem leaves_crc32_of_not_done {i : Instr} {s : State} {r : Crc32Context}
    (hexec : exec i s = finishWrite State.withCrc32 (unlessDone s.ctx.crc32.done r) s) (hd : s.ctx.crc32.done = false) :
    ∃ t, exec i s = .next t ∧ Answers s t 0 0 ∧ t.ctx = { s.ctx with crc32 := r } :=
  completes_of_not_done hexec hd (s.withCrc32_cfg r) (s.withCrc32_port r) (State.answered_ctx ..)

/-! ## The digest byte of R176 -/

section
variable {idx : Byte} {c : Crc32Context}

theorem readCrcDigest_of_not_done (hd : c.done = false) : readCrcDigest idx c = .error .invalidState := by
  simp [readCrcDigest, hd]

theorem readCrcDigest_of_index (hd : c.done = true) (hi : 4 ≤ idx.toNat) :
    readCrcDigest idx c = .error .invalidIndex := by
  have hge : ¬ digestIndex idx < 4 := Nat.not_lt.mpr hi
  rw [readCrcDigest, if_pos hd, dif_neg hge]

theorem readCrcDigest_of_lt (hd : c.done = true) {j : Fin 4} (hidx : idx.toNat = j.val) :
    readCrcDigest idx c = .ok (BitVec.ofNat 64 (c.crc.toNat / 2 ^ (24 - 8 * j.val) % 256)) := by
  have hlt : digestIndex idx < 4 := hidx.trans_lt j.isLt
  rw [readCrcDigest, if_pos hd, dif_pos hlt, ← toNat_bytesBe32, ← zext64_eq_ofNat]
  simp only [digestIndex, hidx]
  rfl

end

/-- A reading command that ends in an error is refused with its code. -/
theorem refusedWith_of_finishRead {i : Instr} {s : State} {r : Except Err DWord} {err : Err}
    (hexec : exec i s = finishRead r s) (hr : r = .error err) : RefusedWith i s err.code := by
  rw [hr] at hexec
  exact refusedWith_of_raise hexec

/-! ## The statements -/

/-- Settles O20, by the context an open PROCESS.CRC32 leaves: DONE is kept, so it is still 0. -/
theorem processCrc32UpdatesTheRunningValue : Obligations.ProcessCrc32UpdatesTheRunningValue := by
  unfold Obligations.ProcessCrc32UpdatesTheRunningValue
  refine ⟨encodedWithImm_of_encode 0x2000 (fun _ => rfl) (by decide), fun s b =>
    ⟨fun hd => ?_, refusedWith_of_done rfl⟩⟩
  have hctx := leaves_crc32_of_not_done (i := .processCrc32 b)
    (r := { crc := crcStep s.ctx.crc32.crc b, done := s.ctx.crc32.done }) rfl hd
  rw [hd] at hctx
  exact hctx

/-- Settles O21, by the context an open FINALIZE.CRC32 leaves. -/
theorem finalizeCrc32InvertsOnce : Obligations.FinalizeCrc32InvertsOnce := by
  unfold Obligations.FinalizeCrc32InvertsOnce
  exact ⟨encodedAs_encode .finalizeCrc32, fun _ => ⟨leaves_crc32_of_not_done rfl, refusedWith_of_done rfl⟩⟩

/-- Settles O22, by the three cases of the read: within the digest, beyond it, and before FINALIZE. -/
theorem rddigestCrc32MostSignificantByteFirst : Obligations.RddigestCrc32MostSignificantByteFirst := by
  unfold Obligations.RddigestCrc32MostSignificantByteFirst
  refine ⟨encodedWithImm_of_encode 0x4000 (fun _ => rfl) (by decide), fun s =>
    ⟨fun hd j => ?_, fun hd idx hi => ?_, fun hd idx => ?_⟩⟩
  · have hidx : (BitVec.ofNat 8 j.val).toNat = j.val := Nat.mod_eq_of_lt (by omega)
    exact returnsOnly_of_finishRead rfl (readCrcDigest_of_lt hd hidx)
  · exact refusedWith_of_finishRead (err := .invalidIndex) rfl (readCrcDigest_of_index hd hi)
  · exact refusedWith_of_finishRead (err := .invalidState) rfl (readCrcDigest_of_not_done hd)

end Sys2Proof.Machine

/-!
PROOFS. NOP, RDSTATUS and RDCOUNT (spec/46_status.md): the status word on numbers, and the statements of the file.
-/

namespace Sys2Proof.Machine

/-! ## The status word of R191 on numbers -/

theorem toNat_zext64 {w : Nat} (hw : w ≤ 64) (x : BitVec w) : (zext64 x).toNat = x.toNat :=
  BitVec.toNat_setWidth_of_le hw

/-- The two fields do not meet: DONE stays below the bits that TAIL is shifted to. -/
theorem statusWord_eq_ofNat (tail : BitVec 6) (done : Bool) :
    statusWord tail done = BitVec.ofNat 64 (tail.toNat * 256 + done.toNat) := by
  have hdone : done.toNat < 2 ^ 8 := done.toNat_le.trans_lt (by decide)
  have hshift : (zext64 tail <<< 8).toNat = 2 ^ 8 * tail.toNat := by
    rw [BitVec.toNat_shiftLeft, toNat_zext64 (by decide), Nat.shiftLeft_eq]
    omega
  apply BitVec.eq_of_toNat_eq
  rw [statusWord, BitVec.toNat_or, hshift, toNat_zext64 (by decide), BitVec.toNat_ofBool,
    ← Nat.two_pow_add_eq_or_of_lt hdone, BitVec.toNat_ofNat]
  omega

theorem returnsOnly_of_status {i : Instr} {s : State} {tail : BitVec 6} {done : Bool}
    (hexec : exec i s = respond (statusWord tail done) s) :
    ReturnsOnly i s (BitVec.ofNat 64 (tail.toNat * 256 + done.toNat)) := by
  rw [statusWord_eq_ofNat] at hexec
  exact returnsOnly_of_respond hexec

/-! ## The word of RDCOUNT that is illegal -/

/-- R58: RDCOUNT with SEL 0 names the CRC32 context, which has no counter. -/
theorem decode_rdcount_of_crc32 : decode 0x6000 = .error .rdcountOfCrc32 := rfl

/-! ## The statements -/

/-- Settles O12: NOP answers 0 and nothing else. -/
theorem nopTouchesNoContext : Obligations.NopTouchesNoContext := by
  unfold Obligations.NopTouchesNoContext
  exact ⟨encodedAs_encode .nop, fun _ => returnsOnly_of_respond rfl⟩

/-- Settles O13, by the status word on numbers; that of CRC32 has the TAIL field 0. -/
theorem rdstatusReturnsTailAndDone : Obligations.RdstatusReturnsTailAndDone := by
  unfold Obligations.RdstatusReturnsTailAndDone
  refine ⟨encodedAs_encode .rdstatusCrc32, encodedAs_encode .rdstatusMd5, encodedAs_encode .rdstatusSha1,
    encodedAs_encode .rdstatusSha256, fun s =>
    ⟨?_, returnsOnly_of_status rfl, returnsOnly_of_status rfl, returnsOnly_of_status rfl⟩⟩
  simpa using returnsOnly_of_status (i := .rdstatusCrc32) (s := s) (tail := 0) rfl

/-- Settles O14: the three words are those of R53, and the fourth decodes to an error. -/
theorem rdcountReturnsTotal : Obligations.RdcountReturnsTotal := by
  unfold Obligations.RdcountReturnsTotal
  refine ⟨encodedAs_encode .rdcountMd5, encodedAs_encode .rdcountSha1, encodedAs_encode .rdcountSha256, fun i hi => ?_,
    fun _ => ⟨returnsOnly_of_respond rfl, returnsOnly_of_respond rfl, returnsOnly_of_respond rfl⟩⟩
  rw [decode_rdcount_of_crc32] at hi
  cases hi

end Sys2Proof.Machine

/-!
PROOFS. Errors (spec/60_exceptions.md): what a step does with a command word, the ERR of each command by the table of R212,
and the statements of the file.
-/

namespace Sys2Proof.Machine

/-! ## The step on a command word -/

/-- The state a command runs in: the host's input is taken from the list and its WDATA stands on the port. -/
def State.taking (s : State) (w : DWord) (rest : List HostInput) : State :=
  { s with port := { s.port with wdata := w, inputs := rest } }

section
variable {s : State} {c : CmdWord} {w : DWord} {rest : List HostInput} (hin : s.port.inputs = .command c w :: rest)
include hin

theorem step_of_decode_ok {i : Instr} (hdec : decode c = .ok i) : step s = exec i (s.taking w rest) := by
  rw [step, fetch_of_cons hin]
  simp only [hdec]
  rfl

theorem step_of_decode_error {why : IllegalReason} (hdec : decode c = .error why) :
    step s = .next ((s.taking w rest).answered 0 .invalidCommand) := by
  rw [step, fetch_of_cons hin]
  simp only [hdec]
  rfl

/-- `exec_answers` for every command word, legal or not: the step goes on, keeps the parameter and returns one response,
and with an error that response carries 0 and the contexts are as before. -/
theorem step_command_answers :
    ∃ t r, step s = .next t ∧ t.cfg = s.cfg ∧
      t.port = { wdata := w, inputs := rest, responses := s.port.responses ++ [r] } ∧
      (r.err ≠ 0 → r.rdata = 0 ∧ t.ctx = s.ctx) := by
  cases hdec : decode c with
  | ok i =>
    rw [step_of_decode_ok hin hdec]
    exact exec_answers i (s.taking w rest)
  | error why =>
    rw [step_of_decode_error hin hdec]
    exact ⟨_, _, rfl, rfl, rfl, fun _ => ⟨rfl, rfl⟩⟩

end

/-! ## The ERR of a command -/

/-- The command completes and the one response it returns has this ERR, whatever its RDATA. -/
def AnswersErr (i : Instr) (s : State) (err : BitVec 2) : Prop := ∃ t v, exec i s = .next t ∧ Answers s t v err

section
variable {i : Instr} {s : State} {alg : Alg} {idx : Byte}

theorem RefusedWith.answersErr {err : BitVec 2} (h : RefusedWith i s err) : AnswersErr i s err := by
  obtain ⟨t, hexec, hans, _⟩ := h
  exact ⟨t, 0, hexec, hans⟩

theorem ReturnsOnly.answersErr {v : DWord} (h : ReturnsOnly i s v) : AnswersErr i s 0 := by
  obtain ⟨t, hexec, hans, _⟩ := h
  exact ⟨t, v, hexec, hans⟩

/-- PROCESS and FINALIZE: InvalidState when DONE is 1. -/
theorem answersErr_openErr {α : Type} {put : State → α → State} {r : α}
    (hexec : exec i s = finishWrite put (unlessDone (s.ctx.doneOf alg) r) s) (hcfg : (put s r).cfg = s.cfg)
    (hport : (put s r).port = s.port) : AnswersErr i s (openErr s.ctx alg) := by
  cases hd : s.ctx.doneOf alg with
  | true =>
    rw [openErr, if_pos hd]
    exact (refusedWith_of_done hexec hd).answersErr
  | false =>
    obtain ⟨t, hnext, hans, _⟩ := completes_of_not_done (P := fun _ => True) hexec hd hcfg hport trivial
    rw [openErr, if_neg (by simp [hd])]
    exact ⟨t, 0, hnext, hans⟩

theorem refusedWith_rddigestOf_of_not_done (hd : s.ctx.doneOf alg = false) : RefusedWith (rddigestOf alg idx) s 1 := by
  cases alg with
  | crc32 => exact refusedWith_of_finishRead (err := .invalidState) rfl (readCrcDigest_of_not_done hd)
  | md5 | sha1 | sha256 => exact refusedWith_of_readDigest_not_done rfl hd

theorem refusedWith_rddigestOf_of_index (hd : s.ctx.doneOf alg = true) (hi : digestSize alg ≤ idx.toNat) :
    RefusedWith (rddigestOf alg idx) s 3 := by
  cases alg with
  | crc32 => exact refusedWith_of_finishRead (err := .invalidIndex) rfl (readCrcDigest_of_index hd hi)
  | md5 | sha1 | sha256 => exact refusedWith_of_readDigest_index rfl hd hi

/-- RDDIGEST: InvalidState before InvalidIndex (R213). -/
theorem answersErr_rddigestOf (s : State) (alg : Alg) (idx : Byte) :
    AnswersErr (rddigestOf alg idx) s (digestErr s.ctx alg idx) := by
  unfold digestErr
  split
  next hopen => exact (refusedWith_rddigestOf_of_not_done hopen).answersErr
  next hdone =>
    rw [Bool.not_eq_false] at hdone
    split
    next hbeyond => exact (refusedWith_rddigestOf_of_index hdone hbeyond).answersErr
    next hwithin =>
      obtain ⟨v, hv⟩ := exists_returnsOnly_rddigestOf hdone (Nat.lt_of_not_le hwithin)
      exact hv.answersErr

end

/-- The table of R212, command by command. -/
theorem answersErr_errOf (i : Instr) (s : State) : AnswersErr i s (errOf s.ctx i) := by
  cases i with
  | nop | resetCrc32 | resetMd5 | resetSha1 | resetSha256 | rdstatusCrc32 | rdstatusMd5 | rdstatusSha1 | rdstatusSha256
  | rdcountMd5 | rdcountSha1 | rdcountSha256 | bswap16 | bswap32 | bswap64 | rotl16 _ | rotl32 _ | rotl64 _ | rotr16 _
  | rotr32 _ | rotr64 _ => exact ⟨_, _, rfl, rfl, rfl⟩
  | processCrc32 _ | finalizeCrc32 => exact answersErr_openErr (alg := .crc32) (put := .withCrc32) rfl rfl rfl
  | processMd5 _ | finalizeMd5 => exact answersErr_openErr (alg := .md5) (put := .withMd5) rfl rfl rfl
  | processSha1 _ | finalizeSha1 => exact answersErr_openErr (alg := .sha1) (put := .withSha1) rfl rfl rfl
  | processSha256 _ | finalizeSha256 => exact answersErr_openErr (alg := .sha256) (put := .withSha256) rfl rfl rfl
  | rddigestCrc32 idx => exact answersErr_rddigestOf s .crc32 idx
  | rddigestMd5 idx => exact answersErr_rddigestOf s .md5 idx
  | rddigestSha1 idx => exact answersErr_rddigestOf s .sha1 idx
  | rddigestSha256 idx => exact answersErr_rddigestOf s .sha256 idx

/-! ## The statements -/

/-- Settles O38: a word that decodes answers by the table of R212, any other InvalidCommand before anything runs. -/
theorem errIsThatOfTheErrorTable : Obligations.ErrIsThatOfTheErrorTable := by
  unfold Obligations.ErrIsThatOfTheErrorTable
  intro s c w rest hin
  cases hdec : decode c with
  | ok i =>
    obtain ⟨t, v, hexec, _, hport⟩ := answersErr_errOf i (s.taking w rest)
    refine ⟨t, v, errOf s.ctx i, (step_of_decode_ok hin hdec).trans hexec, by rw [hport]; rfl, fun j hj => ?_,
      fun hnone => absurd rfl (hnone i)⟩
    rw [Except.ok.inj hj]
  | error why =>
    exact ⟨_, 0, 2, step_of_decode_error hin hdec, rfl, fun _ hj => (nomatch hj), fun _ => rfl⟩

/-- Settles O39, by what every command word does outside the contexts: the response is the one added, and with an error
the contexts are as before. -/
theorem errorLeavesNoTrace : Obligations.ErrorLeavesNoTrace := by
  unfold Obligations.ErrorLeavesNoTrace
  intro s t c w v e rest hin hstep hresp he
  obtain ⟨t', r, hstep', hcfg, hport, herr⟩ := step_command_answers hin
  obtain rfl : t = t' := Host.Outcome.next.inj (hstep.symm.trans hstep')
  obtain rfl : r = ⟨v, e⟩ := by simpa [hport] using hresp
  obtain ⟨hv, hctx⟩ := herr he
  obtain rfl : v = 0 := hv
  refine ⟨rfl, ?_⟩
  calc t = ⟨t.cfg, t.ctx, t.port⟩ := rfl
    _ = _ := by rw [hcfg, hctx, hport]

end Sys2Proof.Machine

/-!
PROOFS. Completion (spec/70_reset_and_hazards.md): every accepted command returns its response.
-/

namespace Sys2Proof.Machine

/-- Settles O10, by what every command word, legal or not, leaves on the port. -/
theorem everyCommandCompletesWithOneResponse : Obligations.EveryCommandCompletesWithOneResponse := by
  unfold Obligations.EveryCommandCompletesWithOneResponse
  intro s c w rest hin
  obtain ⟨t, r, hstep, -, hport, -⟩ := step_command_answers hin
  exact ⟨t, r, hstep, by rw [hport], by rw [hport]⟩

end Sys2Proof.Machine

/-!
PROOFS. Encoding (spec/30_encoding.md): the words that decode, by their upper half and whether IMM8 is 0, how many they
are, and the statements of the file.
-/

namespace Sys2Proof

open Machine

/-! ## The words that select a row, on numbers -/

/-- The rows fix bits 15:8 alone, or all sixteen bits with IMM8 at 0 (R53). -/
theorem opcodeRows_masks :
    ∀ r ∈ opcodeRows, imm8Field r.pat = 0 ∧ (r.mask = 0xFF00 ∨ r.mask = 0xFFFF) := by decide

theorem toNat_mod_256_of_imm8Field_eq_zero {pat : CmdWord} (hlow : imm8Field pat = 0) : pat.toNat % 256 = 0 := by
  have h := toNat_imm8Field pat
  rw [hlow] at h
  exact h.symm

/-- A word with the upper half of a pattern is that pattern with the word's own IMM8. -/
theorem eq_withImm_iff {pat c : CmdWord} (hlow : imm8Field pat = 0) :
    c = withImm pat (imm8Field c) ↔ c.toNat / 256 = pat.toNat / 256 := by
  have hpat := toNat_mod_256_of_imm8Field_eq_zero hlow
  rw [← BitVec.toNat_inj, toNat_withImm pat _ hlow, toNat_imm8Field]
  omega

theorem Row.selects_iff_upper {r : Row} (hr : r ∈ opcodeRows) (c : CmdWord) :
    r.selects c = true ↔ c.toNat / 256 = r.pat.toNat / 256 ∧ (r.mask = 0xFF00 ∨ c.toNat % 256 = 0) := by
  obtain ⟨hlow, hmask | hmask⟩ := opcodeRows_masks r hr
  · rw [← eq_withImm_iff hlow]
    refine ⟨fun hsel => ⟨?_, .inl hmask⟩, fun ⟨hc, _⟩ => ?_⟩
    · have heq := Row.eq_of_selects hsel
      rw [hmask] at heq
      rw [withImm, setWidth_imm8Field]
      exact heq.symm
    · rw [Row.selects_iff, hmask, hc]
      exact withImm_and_highMask r.pat _ hlow
  · have hpat := toNat_mod_256_of_imm8Field_eq_zero hlow
    have hall : c &&& r.mask = c := by rw [hmask]; exact BitVec.and_allOnes
    have hne : r.mask ≠ 0xFF00 := by rw [hmask]; decide
    rw [Row.selects_iff, hall, ← BitVec.toNat_inj]
    simp only [hne, false_or]
    omega

/-- Whether a row takes the words with this upper half, IMM8 being 0 or not. -/
def takesUpper (upper : Nat) (immZero : Bool) : Bool :=
  opcodeRows.any fun r => upper == r.pat.toNat / 256 && (r.mask == 0xFF00 || immZero)

theorem decode_isSome (c : CmdWord) :
    (decode c).toOption.isSome = takesUpper (c.toNat / 256) (c.toNat % 256 == 0) := by
  rw [Bool.eq_iff_iff]
  simp only [takesUpper, List.any_eq_true, Bool.and_eq_true, Bool.or_eq_true, beq_iff_eq]
  constructor
  · intro h
    cases hdec : decode c with
    | ok i =>
      obtain ⟨r, hr, hsel, -⟩ := exists_row_of_decode hdec
      exact ⟨r, hr, (Row.selects_iff_upper hr c).mp hsel⟩
    | error why => simp [hdec, Except.toOption] at h
  · rintro ⟨r, hr, h⟩
    rw [decode_of_selects hr ((Row.selects_iff_upper hr c).mpr h)]
    rfl

theorem forall_decode_ne_ok_iff {c : CmdWord} : (∀ i, decode c ≠ .ok i) ↔ (decode c).toOption.isSome = false := by
  cases decode c <;> simp [Except.toOption]

/-- The clauses of R58, with OP, SEL and RSV as the fields of the upper half. -/
def refusesUpper (upper : Nat) (immZero : Bool) : Bool :=
  [0x7, 0xB, 0xC, 0xD, 0xE, 0xF].contains (upper / 16) || upper % 4 != 0 || (upper / 16 == 0 && upper / 4 % 4 != 0) ||
    ([0x0, 0x1, 0x3, 0x5, 0x6, 0x8].contains (upper / 16) && !immZero) || (upper / 16 == 6 && upper / 4 % 4 == 0) ||
    ([0x8, 0x9, 0xA].contains (upper / 16) && upper / 4 % 4 == 0)

set_option maxRecDepth 10000 in
theorem takesUpper_eq_not_refusesUpper :
    ∀ immZero, ∀ upper < 256, takesUpper upper immZero = !refusesUpper upper immZero := by decide

/-! ## Counting words by their upper half -/

/-- Counting below `a * b` by quotient and remainder. -/
theorem countP_range_mul (p : Nat → Bool) (a b : Nat) :
    (List.range (a * b)).countP p = ((List.range a).map fun q => (List.range b).countP fun r => p (b * q + r)).sum := by
  induction a with
  | zero => simp
  | succ a ih =>
    rw [Nat.succ_mul, List.range_add, List.countP_append, ih, List.range_succ, List.map_append, List.sum_append,
      List.countP_map, Nat.mul_comm a b]
    simp [Function.comp_def]

/-- How many of the 256 words with one upper half decode: the one with IMM8 at 0, and the 255 others together. -/
def wordsTaken (upper : Nat) : Nat :=
  (if takesUpper upper true then 1 else 0) + (if takesUpper upper false then 255 else 0)

theorem countP_takesUpper (upper : Nat) :
    ((List.range 256).countP fun imm => takesUpper upper (imm == 0)) = wordsTaken upper := by
  have hrest : (fun imm => takesUpper upper (imm == 0)) ∘ Nat.succ = fun _ => takesUpper upper false := by
    funext imm
    simp
  rw [List.range_succ_eq_map, List.countP_cons, List.countP_map, hrest, Nat.add_comm, wordsTaken]
  cases takesUpper upper false <;> simp

theorem countP_decode_of_upper {upper : Nat} (hupper : upper < 256) :
    ((List.range 256).countP fun imm => (decode (BitVec.ofNat 16 (256 * upper + imm))).toOption.isSome) =
      wordsTaken upper := by
  rw [← countP_takesUpper]
  apply List.countP_congr
  intro imm himm
  have himm : imm < 256 := List.mem_range.mp himm
  rw [decode_isSome, BitVec.toNat_ofNat, show (256 * upper + imm) % 2 ^ 16 / 256 = upper by omega,
    show (256 * upper + imm) % 2 ^ 16 % 256 = imm by omega]

set_option maxRecDepth 10000 in
theorem sum_wordsTaken : ((List.range 256).map wordsTaken).sum = 3603 := by decide

/-! ## The statements -/

/-- Settles O1, word by word. -/
theorem workedEncodingsDecode : Obligations.WorkedEncodingsDecode := by
  unfold Obligations.WorkedEncodingsDecode
  decide

/-- Settles O2, by the row each command is encoded in. -/
theorem decodeOfEncodeIsTheCommand : Obligations.DecodeOfEncodeIsTheCommand := by
  unfold Obligations.DecodeOfEncodeIsTheCommand
  exact decode_encode

/-- Settles O3: the row a word selects leaves it no bit but IMM8. -/
theorem encodeOfDecodedIsTheWord : Obligations.EncodeOfDecodedIsTheWord := by
  unfold Obligations.EncodeOfDecodedIsTheWord
  exact fun _ _ => encode_of_decode

/-- Settles O4: the patterns of two rows differ in a bit that both masks fix. -/
theorem opcodeRowsDoNotOverlap : Obligations.OpcodeRowsDoNotOverlap := by
  unfold Obligations.OpcodeRowsDoNotOverlap
  exact ⟨rfl, opcodeRows_pairwise_disjoint.imp fun hdisj _ ⟨hr, hq⟩ => Row.not_selects_of_disjoint hdisj hr hq⟩

/-- Settles O5: rows and clauses agree on every upper half. -/
theorem illegalWordsAreThoseListed : Obligations.IllegalWordsAreThoseListed := by
  unfold Obligations.IllegalWordsAreThoseListed
  intro c
  have hupper : c.toNat / 256 < 256 := by omega
  have hop : c.toNat / 4096 = c.toNat / 256 / 16 := by omega
  have hsel : c.toNat / 1024 % 4 = c.toNat / 256 / 4 % 4 := by omega
  rw [forall_decode_ne_ok_iff, decode_isSome, takesUpper_eq_not_refusesUpper _ _ hupper,
    Bool.not_eq_false']
  simp only [refusesUpper, Bool.or_eq_true, Bool.and_eq_true, Bool.not_eq_true', List.contains_iff_mem, bne_iff_ne,
    beq_iff_eq, beq_eq_false_iff_ne, or_assoc, hop, hsel]

/-- Settles O6: 14 upper halves take every IMM8 and 19 take IMM8 0 alone. -/
theorem legalWordsNumber3603 : Obligations.LegalWordsNumber3603 := by
  unfold Obligations.LegalWordsNumber3603
  rw [← List.countP_eq_length_filter, show 65536 = 256 * 256 by rfl, countP_range_mul,
    List.map_congr_left fun upper hupper => countP_decode_of_upper (List.mem_range.mp hupper)]
  exact sum_wordsTaken

end Sys2Proof

/-!
PROOFS. The four contexts as one family (spec/10_state.md R22): what each command of a context does to it and answers,
that it depends on and writes no other, runs of commands, and the statements about all contexts alike.
-/

namespace Sys2Proof.Machine

/-! ## The context of an algorithm, and the operations on it -/

def ContextOf : Alg → Type
  | .crc32 => Crc32Context
  | .md5 => HashContext 4
  | .sha1 => HashContext 5
  | .sha256 => HashContext 8

def Contexts.get (c : Contexts) : (alg : Alg) → ContextOf alg
  | .crc32 => c.crc32
  | .md5 => c.md5
  | .sha1 => c.sha1
  | .sha256 => c.sha256

def State.withContext (s : State) : (alg : Alg) → ContextOf alg → State
  | .crc32, c => s.withCrc32 c
  | .md5, c => s.withMd5 c
  | .sha1, c => s.withSha1 c
  | .sha256, c => s.withSha256 c

def isDone : (alg : Alg) → ContextOf alg → Bool
  | .crc32, c => Crc32Context.done c
  | .md5, c | .sha1, c | .sha256, c => HashContext.done c

/-- What PROCESS.alg makes of an open context (R92, R174). -/
def absorbed (cfg : Config) (b : Byte) : (alg : Alg) → ContextOf alg → ContextOf alg
  | .crc32, c => { crc := crcStep (Crc32Context.crc c) b, done := Crc32Context.done c }
  | .md5, c => absorb (md5Engine cfg) b c
  | .sha1, c => absorb sha1Engine b c
  | .sha256, c => absorb sha256Engine b c

/-- What FINALIZE.alg makes of an open context (R94, R175). -/
def finished (cfg : Config) : (alg : Alg) → ContextOf alg → ContextOf alg
  | .crc32, c => { crc := Crc32Context.crc c ^^^ crcXorOut, done := true }
  | .md5, c => finish (md5Engine cfg) c
  | .sha1, c => finish sha1Engine c
  | .sha256, c => finish sha256Engine c

/-- What RDDIGEST.alg reads (R97, R176). -/
def readDigest (cfg : Config) (idx : Byte) : (alg : Alg) → ContextOf alg → Except Err DWord
  | .crc32, c => readCrcDigest idx c
  | .md5, c => engineReadDigest (md5Engine cfg) idx c
  | .sha1, c => engineReadDigest sha1Engine idx c
  | .sha256, c => engineReadDigest sha256Engine idx c

/-- What RDSTATUS.alg reads (R191). -/
def readStatus : (alg : Alg) → ContextOf alg → DWord
  | .crc32, c => statusWord 0 (Crc32Context.done c)
  | .md5, c | .sha1, c | .sha256, c => statusWord (HashContext.tail c) (HashContext.done c)

section
variable {alg : Alg}

theorem sameContext_iff {x y : Contexts} : SameContext x y alg ↔ x.get alg = y.get alg := by cases alg <;> rfl

theorem doneOf_eq_isDone (c : Contexts) (alg : Alg) : c.doneOf alg = isDone alg (c.get alg) := by cases alg <;> rfl

theorem Contexts.ext_get {x y : Contexts} (h : ∀ alg, x.get alg = y.get alg) : x = y := by
  obtain ⟨c, m, p, q⟩ := x
  obtain rfl : c = y.crc32 := h .crc32
  obtain rfl : m = y.md5 := h .md5
  obtain rfl : p = y.sha1 := h .sha1
  obtain rfl : q = y.sha256 := h .sha256
  rfl

@[simp] theorem get_withContext (s : State) (c : ContextOf alg) : (s.withContext alg c).ctx.get alg = c := by
  cases alg <;> rfl

theorem get_withContext_ne (s : State) {alg' : Alg} (c : ContextOf alg) (h : alg ≠ alg') :
    (s.withContext alg c).ctx.get alg' = s.ctx.get alg' := by
  cases alg with
  | crc32 => cases alg' with
    | crc32 => exact absurd rfl h
    | md5 | sha1 | sha256 => rfl
  | md5 => cases alg' with
    | md5 => exact absurd rfl h
    | crc32 | sha1 | sha256 => rfl
  | sha1 => cases alg' with
    | sha1 => exact absurd rfl h
    | crc32 | md5 | sha256 => rfl
  | sha256 => cases alg' with
    | sha256 => exact absurd rfl h
    | crc32 | md5 | sha1 => rfl

@[simp] theorem withContext_get (s : State) (alg : Alg) : s.withContext alg (s.ctx.get alg) = s := by cases alg <;> rfl

@[simp] theorem withContext_cfg (s : State) (c : ContextOf alg) : (s.withContext alg c).cfg = s.cfg := by
  cases alg <;> rfl

@[simp] theorem withContext_port (s : State) (c : ContextOf alg) : (s.withContext alg c).port = s.port := by
  cases alg <;> rfl

@[simp] theorem isDone_reset (alg : Alg) : isDone alg (Contexts.reset.get alg) = false := by cases alg <;> rfl

@[simp] theorem isDone_absorbed (cfg : Config) (b : Byte) (c : ContextOf alg) :
    isDone alg (absorbed cfg b alg c) = isDone alg c := by
  cases alg with
  | crc32 => rfl
  | md5 | sha1 | sha256 => exact absorb_done ..

@[simp] theorem isDone_finished (cfg : Config) (c : ContextOf alg) : isDone alg (finished cfg alg c) = true := by
  cases alg <;> rfl

end

/-! ## The commands of a context -/

section
variable (s : State) (alg : Alg)

theorem exec_resetOf : exec (resetOf alg) s = respond 0 (s.withContext alg (Contexts.reset.get alg)) := by
  cases alg <;> rfl

theorem exec_processOf (b : Byte) :
    exec (processOf alg b) s =
      finishWrite (fun s c => s.withContext alg c)
        (unlessDone (isDone alg (s.ctx.get alg)) (absorbed s.cfg b alg (s.ctx.get alg))) s := by
  cases alg <;> rfl

theorem exec_finalizeOf :
    exec (finalizeOf alg) s =
      finishWrite (fun s c => s.withContext alg c)
        (unlessDone (isDone alg (s.ctx.get alg)) (finished s.cfg alg (s.ctx.get alg))) s := by
  cases alg <;> rfl

theorem exec_rddigestOf (idx : Byte) :
    exec (rddigestOf alg idx) s = finishRead (readDigest s.cfg idx alg (s.ctx.get alg)) s := by
  cases alg <;> rfl

theorem exec_rdstatusOf : exec (rdstatusOf alg) s = finishRead (.ok (readStatus alg (s.ctx.get alg))) s := by
  cases alg <;> rfl

end

/-- The commands that select a context: RESET, PROCESS, FINALIZE, and those that only read it. -/
inductive Selects (alg : Alg) : Instr → Prop where
  | reset : Selects alg (resetOf alg)
  | process (b : Byte) : Selects alg (processOf alg b)
  | finalize : Selects alg (finalizeOf alg)
  | read {i : Instr} (hreads : readsOnly i = true) (value : Config → ContextOf alg → Except Err DWord)
      (hexec : ∀ s, exec i s = finishRead (value s.cfg (s.ctx.get alg)) s) : Selects alg i

theorem selects_rddigestOf (alg : Alg) (idx : Byte) : Selects alg (rddigestOf alg idx) :=
  .read (by cases alg <;> rfl) (fun cfg c => readDigest cfg idx alg c) fun s => exec_rddigestOf s alg idx

theorem selects_rdstatusOf (alg : Alg) : Selects alg (rdstatusOf alg) :=
  .read (by cases alg <;> rfl) (fun _ c => .ok (readStatus alg c)) fun s => exec_rdstatusOf s alg

theorem selects_of_alg {i : Instr} {alg : Alg} (h : i.alg = some alg) : Selects alg i := by
  cases i with
  | nop | bswap16 | bswap32 | bswap64 | rotl16 _ | rotl32 _ | rotl64 _ | rotr16 _ | rotr32 _ | rotr64 _ => cases h
  | resetCrc32 | resetMd5 | resetSha1 | resetSha256 => cases h; exact .reset
  | processCrc32 b | processMd5 b | processSha1 b | processSha256 b => cases h; exact .process b
  | finalizeCrc32 | finalizeMd5 | finalizeSha1 | finalizeSha256 => cases h; exact .finalize
  | rddigestCrc32 idx | rddigestMd5 idx | rddigestSha1 idx | rddigestSha256 idx =>
    cases h
    exact selects_rddigestOf _ idx
  | rdstatusCrc32 | rdstatusMd5 | rdstatusSha1 | rdstatusSha256 => cases h; exact selects_rdstatusOf _
  | rdcountMd5 | rdcountSha1 | rdcountSha256 =>
    cases h
    exact .read rfl (fun _ c => .ok (HashContext.total c)) fun _ => rfl

theorem exec_of_alg_eq_none {i : Instr} (h : i.alg = none) :
    ∃ value : DWord → DWord, ∀ s, exec i s = respond (value s.port.wdata) s := by
  cases i with
  | nop => exact ⟨fun _ => 0, fun _ => rfl⟩
  | bswap16 => exact ⟨fun x => zext64 (byteSwap16 (x.extractLsb' 0 16)), fun _ => rfl⟩
  | bswap32 => exact ⟨fun x => zext64 (byteSwap32 (x.extractLsb' 0 32)), fun _ => rfl⟩
  | bswap64 => exact ⟨fun x => zext64 (byteSwap64 x), fun _ => rfl⟩
  | rotl16 n => exact ⟨fun x => zext64 (rotl (x.extractLsb' 0 16) n.toNat), fun _ => rfl⟩
  | rotl32 n => exact ⟨fun x => zext64 (rotl (x.extractLsb' 0 32) n.toNat), fun _ => rfl⟩
  | rotl64 n => exact ⟨fun x => zext64 (rotl x n.toNat), fun _ => rfl⟩
  | rotr16 n => exact ⟨fun x => zext64 (rotr (x.extractLsb' 0 16) n.toNat), fun _ => rfl⟩
  | rotr32 n => exact ⟨fun x => zext64 (rotr (x.extractLsb' 0 32) n.toNat), fun _ => rfl⟩
  | rotr64 n => exact ⟨fun x => zext64 (rotr x n.toNat), fun _ => rfl⟩
  | _ => cases h

/-! ## What a command that selects a context depends on -/

/-- The state once the port has returned this response. -/
def State.returning (s : State) (r : Response) : State :=
  { s with port := { s.port with responses := s.port.responses ++ [r] } }

/-- The context and the response at the end of a writing command. -/
def writeEffect {α : Type} (c : α) : Except Err α → α × Response
  | .ok c' => (c', okResponse)
  | .error e => (c, ⟨0, e.code⟩)

/-- The response at the end of a reading command. -/
def readResponse : Except Err DWord → Response
  | .ok v => ⟨v, 0⟩
  | .error e => ⟨0, e.code⟩

section
variable {i : Instr} {alg : Alg}

theorem finishWrite_withContext (s : State) (r : Except Err (ContextOf alg)) :
    finishWrite (fun s c => s.withContext alg c) r s =
      .next ((s.withContext alg (writeEffect (s.ctx.get alg) r).1).returning (writeEffect (s.ctx.get alg) r).2) := by
  cases r with
  | ok c => rfl
  | error e => simp only [writeEffect, withContext_get]; rfl

theorem finishRead_eq (r : Except Err DWord) (s : State) : finishRead r s = .next (s.returning (readResponse r)) := by
  cases r <;> rfl

/-- A command that selects a context maps the parameter and that context to the context it leaves and the response, and
leaves the rest of the state alone. -/
theorem exec_of_alg (h : i.alg = some alg) :
    ∃ f : Config → ContextOf alg → ContextOf alg × Response, ∀ s,
      exec i s = .next ((s.withContext alg (f s.cfg (s.ctx.get alg)).1).returning (f s.cfg (s.ctx.get alg)).2) := by
  cases selects_of_alg h with
  | reset => exact ⟨fun _ _ => (Contexts.reset.get alg, okResponse), fun s => exec_resetOf s alg⟩
  | process b =>
    refine ⟨fun cfg c => writeEffect c (unlessDone (isDone alg c) (absorbed cfg b alg c)), fun s => ?_⟩
    rw [exec_processOf, finishWrite_withContext]
  | finalize =>
    refine ⟨fun cfg c => writeEffect c (unlessDone (isDone alg c) (finished cfg alg c)), fun s => ?_⟩
    rw [exec_finalizeOf, finishWrite_withContext]
  | read _ value hexec =>
    refine ⟨fun cfg c => (c, readResponse (value cfg c)), fun s => ?_⟩
    rw [hexec, finishRead_eq, withContext_get]

/-- R22, the frame: a command leaves every context it does not select as it was. -/
theorem get_of_exec_of_alg_ne {s t : State} (hexec : exec i s = .next t) (h : i.alg ≠ some alg) :
    t.ctx.get alg = s.ctx.get alg := by
  cases hi : i.alg with
  | none =>
    obtain ⟨value, hvalue⟩ := exec_of_alg_eq_none hi
    rw [hvalue, respond_eq_next] at hexec
    rw [hexec, State.answered_ctx]
  | some own =>
    obtain ⟨f, hf⟩ := exec_of_alg hi
    obtain rfl := Host.Outcome.next.inj ((hf s).symm.trans hexec)
    exact get_withContext_ne s _ fun heq => h (heq ▸ hi)

section
variable {s s' t t' : State} (hcfg : s.cfg = s'.cfg) (hget : s.ctx.get alg = s'.ctx.get alg)
  (hexec : exec i s = .next t) (hexec' : exec i s' = .next t')
include hcfg hget hexec hexec'

/-- Two states that agree on the parameter and the selected context give the same context and response. -/
theorem exec_agrees_of_alg (h : i.alg = some alg) :
    t.ctx.get alg = t'.ctx.get alg ∧
      ∃ r, t.port.responses = s.port.responses ++ [r] ∧ t'.port.responses = s'.port.responses ++ [r] := by
  obtain ⟨f, hf⟩ := exec_of_alg h
  obtain rfl := Host.Outcome.next.inj ((hf s).symm.trans hexec)
  obtain rfl := Host.Outcome.next.inj ((hf s').symm.trans hexec')
  rw [hcfg, hget]
  simp [State.returning]

theorem get_of_exec_congr : t.ctx.get alg = t'.ctx.get alg := by
  by_cases h : i.alg = some alg
  · exact (exec_agrees_of_alg hcfg hget hexec hexec' h).1
  · rw [get_of_exec_of_alg_ne hexec h, get_of_exec_of_alg_ne hexec' h, hget]

end

end

/-! ## What a command does to a context, case by case -/

@[simp] theorem alg_resetOf (alg : Alg) : (resetOf alg).alg = some alg := by cases alg <;> rfl
@[simp] theorem alg_processOf (alg : Alg) (b : Byte) : (processOf alg b).alg = some alg := by cases alg <;> rfl
@[simp] theorem alg_finalizeOf (alg : Alg) : (finalizeOf alg).alg = some alg := by cases alg <;> rfl
@[simp] theorem readsOnly_resetOf (alg : Alg) : readsOnly (resetOf alg) = false := by cases alg <;> rfl
@[simp] theorem readsOnly_processOf (alg : Alg) (b : Byte) : readsOnly (processOf alg b) = false := by cases alg <;> rfl
@[simp] theorem readsOnly_finalizeOf (alg : Alg) : readsOnly (finalizeOf alg) = false := by cases alg <;> rfl

@[simp] theorem resetOf_ne_finalizeOf (alg : Alg) : resetOf alg ≠ finalizeOf alg := by cases alg <;> exact nofun
@[simp] theorem processOf_ne_resetOf (alg : Alg) (b : Byte) : processOf alg b ≠ resetOf alg := by
  cases alg <;> exact nofun
@[simp] theorem processOf_ne_finalizeOf (alg : Alg) (b : Byte) : processOf alg b ≠ finalizeOf alg := by
  cases alg <;> exact nofun

/-- What a command makes of the context `c` of `alg`: RESET constructs it, PROCESS and FINALIZE change it while it is
open, and nothing else does. -/
inductive ContextChange (cfg : Config) (alg : Alg) (c : ContextOf alg) : Instr → ContextOf alg → Prop where
  | resets : ContextChange cfg alg c (resetOf alg) (Contexts.reset.get alg)
  | absorbs (b : Byte) (hopen : isDone alg c = false) : ContextChange cfg alg c (processOf alg b) (absorbed cfg b alg c)
  | finishes (hopen : isDone alg c = false) : ContextChange cfg alg c (finalizeOf alg) (finished cfg alg c)
  | keeps {i : Instr} (hreset : i ≠ resetOf alg) (hfinalize : i = finalizeOf alg → isDone alg c = true) :
      ContextChange cfg alg c i c

section
variable {i : Instr} {s t : State}

theorem get_of_finishWrite_unlessDone {alg : Alg} {d : Bool} {c : ContextOf alg}
    (hexec : finishWrite (fun s c => s.withContext alg c) (unlessDone d c) s = .next t) :
    t.ctx.get alg = if d then s.ctx.get alg else c := by
  rw [finishWrite_withContext] at hexec
  obtain rfl := Host.Outcome.next.inj hexec
  cases d <;> exact get_withContext ..

/-- Everything a command can do to a context. -/
theorem contextChange_of_exec (hexec : exec i s = .next t) (alg : Alg) :
    ContextChange s.cfg alg (s.ctx.get alg) i (t.ctx.get alg) := by
  by_cases h : i.alg = some alg
  · cases selects_of_alg h with
    | reset =>
      rw [exec_resetOf, respond_eq_next] at hexec
      rw [hexec, State.answered_ctx, get_withContext]
      exact .resets
    | process b =>
      rw [exec_processOf] at hexec
      rw [get_of_finishWrite_unlessDone hexec]
      split
      · exact .keeps (processOf_ne_resetOf alg b) fun heq => absurd heq (processOf_ne_finalizeOf alg b)
      next hopen => exact .absorbs b (Bool.not_eq_true _ ▸ hopen)
    | finalize =>
      rw [exec_finalizeOf] at hexec
      rw [get_of_finishWrite_unlessDone hexec]
      split
      next hdone => exact .keeps (resetOf_ne_finalizeOf alg).symm fun _ => hdone
      next hopen => exact .finishes (Bool.not_eq_true _ ▸ hopen)
    | read hreads value hread =>
      rw [hread, finishRead_eq] at hexec
      obtain rfl := Host.Outcome.next.inj hexec
      exact .keeps (by rintro rfl; simp at hreads) (by rintro rfl; simp at hreads)
  · rw [get_of_exec_of_alg_ne hexec h]
    exact .keeps (by rintro rfl; simp at h) (by rintro rfl; simp at h)

theorem get_of_exec_of_isDone {alg : Alg} (hexec : exec i s = .next t) (hdone : isDone alg (s.ctx.get alg) = true)
    (hreset : i ≠ resetOf alg) : t.ctx.get alg = s.ctx.get alg := by
  generalize hc : t.ctx.get alg = c
  have hchange := contextChange_of_exec hexec alg
  rw [hc] at hchange
  cases hchange with
  | resets => exact absurd rfl hreset
  | absorbs b hopen | finishes hopen => simp [hopen] at hdone
  | keeps _ _ => rfl

end

/-! ## Runs of commands -/

section
variable {s t : State}

theorem runCommands_cons {i : Instr} (is : List Instr) (h : exec i s = .next t) :
    runCommands (i :: is) s = runCommands is t := by
  rw [runCommands, h]

theorem exists_runCommands (is : List Instr) (s : State) : ∃ t, runCommands is s = .next t := by
  induction is generalizing s with
  | nil => exact ⟨s, rfl⟩
  | cons i is ih =>
    obtain ⟨t, -, hexec, -⟩ := exec_answers i s
    rw [runCommands_cons is hexec]
    exact ih t

/-- A run of all commands and, from a state that agrees on the parameter and one context, a run of those that select
that context leave it the same. -/
theorem runCommands_filter_agrees (is : List Instr) {alg : Alg} {s s' : State} (hcfg : s.cfg = s'.cfg)
    (hget : s.ctx.get alg = s'.ctx.get alg) :
    ∃ t u, runCommands is s = .next t ∧ runCommands (is.filter fun i => decide (i.alg = some alg)) s' = .next u ∧
      t.ctx.get alg = u.ctx.get alg := by
  induction is generalizing s s' with
  | nil => exact ⟨s, s', rfl, rfl, hget⟩
  | cons i is ih =>
    obtain ⟨t, -, hexec, htcfg, -, -⟩ := exec_answers i s
    rw [runCommands_cons is hexec]
    by_cases h : i.alg = some alg
    · obtain ⟨t', -, hexec', htcfg', -, -⟩ := exec_answers i s'
      rw [List.filter_cons_of_pos (by simpa using h), runCommands_cons _ hexec']
      exact ih (htcfg.trans (hcfg.trans htcfg'.symm)) (get_of_exec_congr hcfg hget hexec hexec')
    · rw [List.filter_cons_of_neg (by simpa using h)]
      exact ih (htcfg.trans hcfg) ((get_of_exec_of_alg_ne hexec h).trans hget)

theorem get_of_runCommands_of_isDone (is : List Instr) {alg : Alg} (hrun : runCommands is s = .next t)
    (hdone : isDone alg (s.ctx.get alg) = true) (hreset : resetOf alg ∉ is) : t.ctx.get alg = s.ctx.get alg := by
  induction is generalizing s with
  | nil => rw [Host.Outcome.next.inj hrun]
  | cons i is ih =>
    rw [List.mem_cons, not_or] at hreset
    obtain ⟨hi, his⟩ := hreset
    obtain ⟨u, -, hexec, -⟩ := exec_answers i s
    rw [runCommands_cons is hexec] at hrun
    have hget := get_of_exec_of_isDone hexec hdone (Ne.symm hi)
    rw [ih hrun (hget ▸ hdone) his, hget]

end

/-! ## Two commands in either order -/

/-- If the second of two commands does not select a context, it may as well come first for that context. -/
theorem get_of_swap {i j : Instr} {s t₁ t t₁' t' : State} {alg : Alg} (hj : j.alg ≠ some alg)
    (hi₁ : exec i s = .next t₁) (hj₁ : exec j t₁ = .next t) (hj₂ : exec j s = .next t₁') (hi₂ : exec i t₁' = .next t')
    (hcfg : s.cfg = t₁'.cfg) : t.ctx.get alg = t'.ctx.get alg :=
  calc t.ctx.get alg = t₁.ctx.get alg := get_of_exec_of_alg_ne hj₁ hj
    _ = t'.ctx.get alg := get_of_exec_congr hcfg (get_of_exec_of_alg_ne hj₂ hj).symm hi₁ hi₂

theorem cfg_of_exec {i : Instr} {s t : State} (hexec : exec i s = .next t) : t.cfg = s.cfg := by
  obtain ⟨t', -, hexec', hcfg, -⟩ := exec_answers i s
  rw [Host.Outcome.next.inj (hexec.symm.trans hexec'), hcfg]

theorem runCommands_swap {i j : Instr} (s : State) (h : i.alg ≠ j.alg) :
    ∃ t t', runCommands [i, j] s = .next t ∧ runCommands [j, i] s = .next t' ∧ t.ctx = t'.ctx := by
  obtain ⟨ti, -, hi, -⟩ := exec_answers i s
  obtain ⟨tj, -, hj, -⟩ := exec_answers j s
  obtain ⟨tij, -, hij, -⟩ := exec_answers j ti
  obtain ⟨tji, -, hji, -⟩ := exec_answers i tj
  refine ⟨tij, tji, ?_, ?_, Contexts.ext_get fun alg => ?_⟩
  · rw [runCommands_cons _ hi, runCommands_cons _ hij, runCommands]
  · rw [runCommands_cons _ hj, runCommands_cons _ hji, runCommands]
  · by_cases hjalg : j.alg = some alg
    · exact (get_of_swap (hjalg ▸ h) hj hji hi hij (cfg_of_exec hi).symm).symm
    · exact get_of_swap hjalg hi hij hj hji (cfg_of_exec hj).symm

/-! ## Commands that only read -/

/-- A reading command only adds a response, the same in every state with that parameter, contexts and WDATA. -/
theorem exec_of_readsOnly {i : Instr} (h : readsOnly i = true) (s : State) :
    ∃ r, ∀ u : State, u.cfg = s.cfg → u.ctx = s.ctx → u.port.wdata = s.port.wdata →
      exec i u = .next (u.returning r) := by
  cases hi : i.alg with
  | none =>
    obtain ⟨value, hvalue⟩ := exec_of_alg_eq_none hi
    refine ⟨⟨value s.port.wdata, 0⟩, fun u _ _ hwdata => ?_⟩
    rw [hvalue, hwdata]
    rfl
  | some alg =>
    cases selects_of_alg hi with
    | reset | process b | finalize => simp at h
    | read _ value hexec =>
      refine ⟨readResponse (value s.cfg (s.ctx.get alg)), fun u hcfg hctx _ => ?_⟩
      rw [hexec, finishRead_eq, hcfg, hctx]

/-! ## The statements -/

/-- Settles O37, by induction on the run: a finalised context is changed by its RESET alone. -/
theorem finalizedContextIsImmutableUntilReset : Obligations.FinalizedContextIsImmutableUntilReset := by
  unfold Obligations.FinalizedContextIsImmutableUntilReset
  intro is s alg hdone hreset
  obtain ⟨t, hrun⟩ := exists_runCommands is s
  rw [doneOf_eq_isDone] at hdone
  exact ⟨t, hrun, sameContext_iff.mpr (get_of_runCommands_of_isDone is hrun hdone hreset).symm⟩

/-- Settles O42, by what a command that selects a context depends on and writes. -/
theorem contextsAreIndependent : Obligations.ContextsAreIndependent := by
  unfold Obligations.ContextsAreIndependent
  refine ⟨fun i s t alg hexec h => sameContext_iff.mpr (get_of_exec_of_alg_ne hexec h).symm,
    fun i s s' t t' alg halg hcfg hsame hexec hexec' => ?_, fun i j s => runCommands_swap s⟩
  rw [sameContext_iff] at hsame ⊢
  exact exec_agrees_of_alg hcfg hsame hexec hexec' halg

/-- Settles O43, by induction on the run of all commands. -/
theorem interleavedCommandsDoNotMatter : Obligations.InterleavedCommandsDoNotMatter := by
  unfold Obligations.InterleavedCommandsDoNotMatter
  intro is s alg
  obtain ⟨t, u, hrun, hrun', hget⟩ := runCommands_filter_agrees is (s := s) (alg := alg) rfl rfl
  exact ⟨t, u, hrun, hrun', sameContext_iff.mpr hget⟩

/-- Settles O41: of a run of the four RESETs each context sees its own alone. -/
theorem fourResetsEqualHardwareReset : Obligations.FourResetsEqualHardwareReset := by
  unfold Obligations.FourResetsEqualHardwareReset
  intro s is hperm
  obtain ⟨t, hrun⟩ := exists_runCommands is s
  refine ⟨t, hrun, Contexts.ext_get fun alg => ?_⟩
  obtain ⟨t', u, hrun', hown, hget⟩ := runCommands_filter_agrees is (s := s) (alg := alg) rfl rfl
  obtain rfl := Host.Outcome.next.inj (hrun.symm.trans hrun')
  have hfilter : is.filter (fun i => decide (i.alg = some alg)) = [resetOf alg] := by
    have hown := hperm.filter fun i => decide (i.alg = some alg)
    cases alg <;> exact List.perm_singleton.mp hown
  rw [hfilter, runCommands_cons _ (exec_resetOf s alg)] at hown
  rw [hget, ← Host.Outcome.next.inj hown, State.answered_ctx, get_withContext]
  rfl

/-- Settles O44: the second reading finds the parameter, the contexts and WDATA of the first. -/
theorem readsHaveNoSideEffects : Obligations.ReadsHaveNoSideEffects := by
  unfold Obligations.ReadsHaveNoSideEffects
  intro i s hreads
  obtain ⟨r, hr⟩ := exec_of_readsOnly hreads s
  exact ⟨_, _, r, hr s rfl rfl rfl, hr (s.returning r) rfl rfl rfl, rfl, rfl, rfl, rfl, rfl⟩

/-- Settles O45, by the four things a command can do to a context. -/
theorem doneIsWrittenByFinalizeAndResetOnly : Obligations.DoneIsWrittenByFinalizeAndResetOnly := by
  unfold Obligations.DoneIsWrittenByFinalizeAndResetOnly
  intro i s t alg hexec
  simp only [doneOf_eq_isDone]
  generalize hc : t.ctx.get alg = c
  have hchange := contextChange_of_exec hexec alg
  rw [hc] at hchange
  cases hchange with
  | resets => simp
  | absorbs b hopen => simp
  | finishes hopen => simp
  | keeps hreset hfinalize =>
    rw [if_neg hreset]
    split
    next heq => exact hfinalize heq
    next => rfl

end Sys2Proof.Machine

/-!
PROOFS. The step (spec/30_encoding.md R50, R51), reset (spec/70_reset_and_hazards.md), and the invariant of
spec/10_state.md section 8: every procedure of the engine keeps it, so every command and every step does.
-/

namespace Sys2Proof.Machine

/-! ## The step with nothing issued, and on hardware reset -/

theorem step_of_nil {s : State} (h : s.port.inputs = []) : step s = .next s := by
  rw [step, fetch_of_nil h]
  rfl

theorem step_of_hardwareReset {s : State} {rest : List HostInput} (h : s.port.inputs = .hardwareReset :: rest) :
    step s = .next { s with ctx := Contexts.reset, port := { s.port with inputs := rest } } := by
  rw [step, fetch_of_cons h]
  rfl

/-- Everything a step can do to the contexts. -/
theorem ctx_of_step {s t : State} (hstep : step s = .next t) :
    t.ctx = s.ctx ∨ t.ctx = Contexts.reset ∨ ∃ i s', s'.ctx = s.ctx ∧ exec i s' = .next t := by
  cases hin : s.port.inputs with
  | nil =>
    rw [step_of_nil hin] at hstep
    exact .inl (congrArg State.ctx (Host.Outcome.next.inj hstep)).symm
  | cons x rest =>
    cases x with
    | hardwareReset =>
      rw [step_of_hardwareReset hin] at hstep
      exact .inr (.inl (congrArg State.ctx (Host.Outcome.next.inj hstep)).symm)
    | command c w =>
      cases hdec : decode c with
      | ok i => exact .inr (.inr ⟨i, s.taking w rest, rfl, (step_of_decode_ok hin hdec).symm.trans hstep⟩)
      | error why =>
        rw [step_of_decode_error hin hdec] at hstep
        exact .inl (congrArg State.ctx (Host.Outcome.next.inj hstep)).symm

/-! ## The invariant of a hash context -/

section
variable {n : Nat} (e : Engine n) {c : HashContext n}

theorem tail_toNat_le (c : HashContext n) : c.tail.toNat ≤ 63 := Nat.le_of_lt_succ c.tail.isLt

theorem inv_reset (init : Vector Word n) : (HashContext.reset init).Inv :=
  ⟨rfl, rfl, tail_toNat_le _, fun _ => ⟨rfl, fun _ _ _ => rfl⟩, fun h => nomatch h⟩

theorem inv_absorb (b : Byte) (h : c.Inv) (hopen : c.done = false) : (absorb e b c).Inv := by
  obtain ⟨hwf, hblock, htail, hmid, -⟩ := h
  obtain ⟨htotal, hzeros⟩ := hmid hopen
  have hdone : (absorb e b c).done = true → (absorb e b c).tail = 0 := by
    rw [absorb_done, hopen]
    exact nofun
  by_cases hfull : c.tail = 63
  · rw [absorb_of_tail_eq e b c hfull] at hdone ⊢
    refine ⟨Memory.wf_zeroed, Memory.inBlock_zeroed, tail_toNat_le _,
      fun _ => ⟨?_, fun a _ _ => Memory.read_zeroed a⟩, hdone⟩
    change (c.total.toNat + 64) % 2 ^ 64 % 64 = 0
    omega
  · have hlt : c.tail.toNat + 1 < 64 := by
      have hne : c.tail.toNat ≠ 63 := fun heq => hfull (BitVec.eq_of_toNat_eq heq)
      omega
    have htail' : (c.tail + 1).toNat = c.tail.toNat + 1 := by
      rw [BitVec.toNat_add]
      exact Nat.mod_eq_of_lt hlt
    rw [absorb_of_tail_ne e b c hfull] at hdone ⊢
    refine ⟨Memory.wf_write _ _ _ hwf, Memory.inBlock_write _ _ _ hblock (by omega), tail_toNat_le _,
      fun _ => ⟨htotal, fun a ha hle => ?_⟩, hdone⟩
    change (c.tail + 1).toNat ≤ a at hle
    rw [Memory.read_write, if_neg (by omega)]
    exact hzeros a ha (by omega)

theorem inv_finish (hlen : ∀ l, (e.lenBytes l).length = 8) (h : c.Inv) : (finish e c).Inv := by
  obtain ⟨hwf, hblock, htail, -, -⟩ := h
  have hpad : Memory.wf (padBuf c) = true ∧ Memory.inBlock (padBuf c) = true :=
    ⟨Memory.wf_writeBytes _ _ _ (Memory.wf_write _ _ _ hwf),
      Memory.inBlock_writeBytes _ _ _ (Memory.inBlock_write _ _ _ hblock (by omega))
        (by rw [List.length_replicate]; omega)⟩
  have hpadded : Memory.wf (padded e c).2 = true ∧ Memory.inBlock (padded e c).2 = true := by
    unfold padded
    split
    · exact ⟨Memory.wf_zeroed, Memory.inBlock_zeroed⟩
    · exact hpad
  refine ⟨Memory.wf_writeBytes _ _ _ hpadded.1, Memory.inBlock_writeBytes _ _ _ hpadded.2 ?_, tail_toNat_le _,
    fun hopen => ?_, fun _ => finish_tail e c⟩
  · rw [hlen]
  · rw [finish_done] at hopen
    cases hopen

end

/-! ## The invariant of the machine -/

/-- The invariant of one context; that of CRC32 has no buffer and nothing to keep. -/
def InvOf : (alg : Alg) → ContextOf alg → Prop
  | .crc32, _ => True
  | .md5, c | .sha1, c | .sha256, c => HashContext.Inv c

theorem inv_iff {s : State} : s.Inv ↔ ∀ alg, InvOf alg (s.ctx.get alg) := by
  constructor
  · rintro ⟨hmd5, hsha1, hsha256⟩ alg
    cases alg with
    | crc32 => trivial
    | md5 => exact hmd5
    | sha1 => exact hsha1
    | sha256 => exact hsha256
  · exact fun h => ⟨h .md5, h .sha1, h .sha256⟩

theorem invOf_reset (alg : Alg) : InvOf alg (Contexts.reset.get alg) := by
  cases alg with
  | crc32 => trivial
  | md5 | sha1 | sha256 => exact inv_reset _

theorem invOf_absorbed (cfg : Config) (b : Byte) {alg : Alg} {c : ContextOf alg} (h : InvOf alg c)
    (hopen : isDone alg c = false) : InvOf alg (absorbed cfg b alg c) := by
  cases alg with
  | crc32 => trivial
  | md5 | sha1 | sha256 => exact inv_absorb _ b h hopen

theorem invOf_finished (cfg : Config) {alg : Alg} {c : ContextOf alg} (h : InvOf alg c) :
    InvOf alg (finished cfg alg c) := by
  cases alg with
  | crc32 => trivial
  | md5 => exact inv_finish _ (length_lenBytesMd5 cfg) h
  | sha1 | sha256 => exact inv_finish _ length_bytesBe64 h

theorem invOf_of_contextChange {cfg : Config} {alg : Alg} {c c' : ContextOf alg} {i : Instr} (h : InvOf alg c)
    (hchange : ContextChange cfg alg c i c') : InvOf alg c' := by
  cases hchange with
  | resets => exact invOf_reset alg
  | absorbs b hopen => exact invOf_absorbed cfg b h hopen
  | finishes hopen => exact invOf_finished cfg h
  | keeps _ _ => exact h

theorem inv_of_step {s t : State} (h : s.Inv) (hstep : step s = .next t) : t.Inv := by
  rw [inv_iff] at h ⊢
  intro alg
  obtain hsame | hreset | ⟨i, s', hctx, hexec⟩ := ctx_of_step hstep
  · rw [hsame]
    exact h alg
  · rw [hreset]
    exact invOf_reset alg
  · exact invOf_of_contextChange (hctx ▸ h alg) (contextChange_of_exec hexec alg)

/-! ## The statements -/

theorem isConstructed_reset {n : Nat} (init : Vector Word n) : IsConstructed (HashContext.reset init) init :=
  ⟨rfl, fun _ => rfl, rfl, rfl, rfl⟩

/-- Settles O47: a step leaves the contexts, constructs them, or runs one command. -/
theorem everyStepKeepsTheInvariant : Obligations.EveryStepKeepsTheInvariant := by
  unfold Obligations.EveryStepKeepsTheInvariant
  exact fun _ _ => inv_of_step

/-- Settles O46, by the invariant of a constructed context. -/
theorem resetSatisfiesTheInvariant : Obligations.ResetSatisfiesTheInvariant := by
  unfold Obligations.ResetSatisfiesTheInvariant
  exact inv_iff.mpr invOf_reset

/-- Settles O7, by the step on a word that decodes. -/
theorem stepRunsTheDecodedCommand : Obligations.StepRunsTheDecodedCommand := by
  unfold Obligations.StepRunsTheDecodedCommand
  exact fun _ _ _ _ _ hin hdec => step_of_decode_ok hin hdec

/-- Settles O8, by the step on a word that does not decode. -/
theorem illegalWordRaisesInvalidCommand : Obligations.IllegalWordRaisesInvalidCommand := by
  unfold Obligations.IllegalWordRaisesInvalidCommand
  intro s c w rest hin hnone
  cases hdec : decode c with
  | ok i => exact absurd hdec (hnone i)
  | error why => exact ⟨_, step_of_decode_error hin hdec, rfl, rfl, rfl⟩

/-- Settles O9: nothing is fetched, and the machine is idle. -/
theorem stepWithNothingIssuedChangesNothing : Obligations.StepWithNothingIssuedChangesNothing := by
  unfold Obligations.StepWithNothingIssuedChangesNothing
  exact fun _ => step_of_nil

/-- Settles O11, by the three things a host can do next. -/
theorem noStepStopsOrRewritesHistory : Obligations.NoStepStopsOrRewritesHistory := by
  unfold Obligations.NoStepStopsOrRewritesHistory
  intro s
  cases hin : s.port.inputs with
  | nil => exact ⟨s, step_of_nil hin, rfl, List.prefix_rfl⟩
  | cons x rest =>
    cases x with
    | hardwareReset => exact ⟨_, step_of_hardwareReset hin, rfl, List.prefix_rfl⟩
    | command c w =>
      obtain ⟨t, r, hstep, hcfg, hport, -⟩ := step_command_answers hin
      exact ⟨t, hstep, hcfg, by rw [hport]; exact List.prefix_append ..⟩

/-- Settles O25: RESET.alg puts the constructed context in place and answers. -/
theorem resetConstructsItsContext : Obligations.ResetConstructsItsContext := by
  unfold Obligations.ResetConstructsItsContext
  exact ⟨encodedAs_encode .resetCrc32, encodedAs_encode .resetMd5, encodedAs_encode .resetSha1,
    encodedAs_encode .resetSha256, fun s =>
      ⟨⟨_, exec_resetOf s .crc32, ⟨rfl, rfl⟩, rfl, rfl⟩,
        ⟨_, exec_resetOf s .md5, ⟨rfl, rfl⟩, rfl, isConstructed_reset initMd5⟩,
        ⟨_, exec_resetOf s .sha1, ⟨rfl, rfl⟩, rfl, isConstructed_reset initSha1⟩,
        ⟨_, exec_resetOf s .sha256, ⟨rfl, rfl⟩, rfl, isConstructed_reset initSha256⟩⟩⟩

/-- Settles O40, by the step on hardware reset. -/
theorem hardwareResetConstructsAllContexts : Obligations.HardwareResetConstructsAllContexts := by
  unfold Obligations.HardwareResetConstructsAllContexts
  exact ⟨fun _ _ hin => ⟨_, step_of_hardwareReset hin, rfl⟩, rfl, isConstructed_reset initMd5,
    isConstructed_reset initSha1, isConstructed_reset initSha256⟩

end Sys2Proof.Machine

/-!
PROOFS. Rotation by the places of the bits (spec/40_bitops.md section 5): a left rotation by `n` moves bit `i` to place
`(i + n) mod W`, a right rotation moves it back.
-/

namespace Sys2Proof.Machine

/-! ## The place a bit goes to -/

section
variable {W : Nat}

/-- Every place is where some bit goes. -/
theorem exists_place {j : Nat} (n : Nat) (hj : j < W) : ∃ i < W, (i + n) % W = j := by
  have hn : n % W < W := Nat.mod_lt _ (by omega)
  refine ⟨(j + (W - n % W)) % W, Nat.mod_lt _ (by omega), ?_⟩
  rw [Nat.mod_add_mod, ← Nat.add_mod_mod, Nat.add_assoc, Nat.sub_add_cancel hn.le, Nat.add_mod_right,
    Nat.mod_eq_of_lt hj]

theorem eq_of_getLsbD_place {x y : BitVec W} (n : Nat)
    (h : ∀ i < W, x.getLsbD ((i + n) % W) = y.getLsbD ((i + n) % W)) : x = y := by
  apply BitVec.eq_of_getLsbD_eq
  intro j hj
  obtain ⟨i, hi, rfl⟩ := exists_place n hj
  exact h i hi

theorem place_eq_ite {i n : Nat} (hi : i < W) :
    (i + n) % W = if i < W - n % W then i + n % W else i - (W - n % W) := by
  have hn : n % W < W := Nat.mod_lt _ (by omega)
  rw [← Nat.add_mod_mod]
  split
  · exact Nat.mod_eq_of_lt (by omega)
  · rw [Nat.mod_eq_sub_mod (by omega), Nat.mod_eq_of_lt (by omega)]
    omega

theorem getLsbD_rotr (x : BitVec W) (n : Nat) {i : Nat} (hi : i < W) :
    (rotr x n).getLsbD i = x.getLsbD ((i + n) % W) := by
  rw [rotr_eq_rotateRight, BitVec.getLsbD_rotateRight, place_eq_ite hi]
  by_cases h : i < W - n % W <;> simp [h, hi, Nat.add_comm]

theorem getLsbD_rotl_place (x : BitVec W) (n : Nat) {i : Nat} (hi : i < W) :
    (rotl x n).getLsbD ((i + n) % W) = x.getLsbD i := by
  have hn : n % W < W := Nat.mod_lt _ (by omega)
  rw [rotl_eq_rotateLeft, BitVec.getLsbD_rotateLeft, place_eq_ite hi]
  by_cases h : i < W - n % W
  · simp [h, show i + n % W < W by omega]
  · have hlow : i - (W - n % W) < n % W := by omega
    simp [h, hlow, show W - n % W + (i - (W - n % W)) = i by omega]

/-! ## The laws -/

theorem rotr_rotl (x : BitVec W) (n : Nat) : rotr (rotl x n) n = x := by
  apply BitVec.eq_of_getLsbD_eq
  intro i hi
  rw [getLsbD_rotr _ n hi, getLsbD_rotl_place x n hi]

theorem rotl_rotl (x : BitVec W) (n m : Nat) : rotl (rotl x n) m = rotl x (n + m) := by
  apply eq_of_getLsbD_place (n + m)
  intro i hi
  have hplace : (i + n) % W < W := Nat.mod_lt _ (by omega)
  have h := getLsbD_rotl_place (rotl x n) m hplace
  rw [Nat.mod_add_mod, Nat.add_assoc] at h
  rw [h, getLsbD_rotl_place x n hi, getLsbD_rotl_place x (n + m) hi]

theorem rotl_mod (x : BitVec W) (n : Nat) : rotl x n = rotl x (n % W) := by simp only [rotl, Nat.mod_mod]

theorem rotl_eq_rotr (x : BitVec W) (n : Nat) : rotl x n = rotr x ((W - n % W) % W) := by
  apply eq_of_getLsbD_place n
  intro i hi
  have hn : n % W < W := Nat.mod_lt _ (by omega)
  have hback : ((i + n) % W + (W - n % W) % W) % W = i := by
    rw [← Nat.add_mod, ← Nat.mod_add_mod, ← Nat.add_mod_mod i, Nat.mod_add_mod, Nat.add_assoc,
      Nat.add_sub_cancel' hn.le, Nat.add_mod_right, Nat.mod_eq_of_lt hi]
  rw [getLsbD_rotl_place x n hi, getLsbD_rotr x _ (Nat.mod_lt _ (by omega)), hback]

theorem byteSwap16_eq_rotl (x : BitVec 16) : byteSwap16 x = rotl x 8 := by
  apply eq_of_bytes_eq (n := 2) (by decide)
  intro k hk
  rw [byteSwap16_reversesBytes x k hk]
  apply BitVec.eq_of_getLsbD_eq
  intro i hi
  have hplace : (8 * (2 - 1 - k) + i + 8) % 16 = 8 * k + i := by omega
  simp only [BitVec.getLsbD_extractLsb', hi, decide_true, Bool.true_and]
  rw [← hplace, getLsbD_rotl_place x 8 (by omega)]

/-! ## The number of 1 bits -/

/-- The places the bits go to are all places, in another order. -/
theorem map_place_perm (W n : Nat) : ((List.range W).map fun i => (i + n) % W).Perm (List.range W) := by
  have hrotate : ((List.range W).map fun i => (i + n) % W) = (List.range W).rotate n := by
    apply List.ext_getElem (by simp)
    intro k hk _
    simp [List.getElem_rotate]
  rw [hrotate]
  exact List.rotate_perm ..

theorem countP_place (p : Nat → Bool) (W n : Nat) :
    ((List.range W).countP fun i => p ((i + n) % W)) = (List.range W).countP p := by
  rw [← (map_place_perm W n).countP_eq p, List.countP_map]
  rfl

theorem countP_rotl (x : BitVec W) (n : Nat) :
    ((List.range W).countP fun i => (rotl x n).getLsbD i) = (List.range W).countP fun i => x.getLsbD i := by
  rw [← countP_place _ W n]
  apply List.countP_congr
  intro i hi
  rw [getLsbD_rotl_place x n (List.mem_range.mp hi)]

theorem countP_rotr (x : BitVec W) (n : Nat) :
    ((List.range W).countP fun i => (rotr x n).getLsbD i) = (List.range W).countP fun i => x.getLsbD i := by
  rw [← countP_place (fun i => x.getLsbD i) W n]
  apply List.countP_congr
  intro i hi
  rw [getLsbD_rotr x n (List.mem_range.mp hi)]

end

/-! ## The statements -/

/-- Settles O18, by the place each bit goes to. -/
theorem rotationLaws : Obligations.RotationLaws := by
  unfold Obligations.RotationLaws
  exact ⟨fun _ x n m _ => ⟨rotr_rotl x n, rotl_rotl x n m, rotl_mod x n, rotl_eq_rotr x n⟩, byteSwap16_eq_rotl⟩

/-- Settles O19: the places the bits go to are all places. -/
theorem rotationPreservesTheNumberOfOnes : Obligations.RotationPreservesTheNumberOfOnes := by
  unfold Obligations.RotationPreservesTheNumberOfOnes
  exact fun _ x n => ⟨countP_rotl x n, countP_rotr x n⟩

end Sys2Proof.Machine

/-!
PROOFS. The CRC table step (spec/45_crc32.md section 1): one bit step is linear over exclusive or, eight of them shift out
a low byte of zeros, and on a byte alone they give the entry of the table.
-/

namespace Sys2Proof.Machine

/-! ## Steps of one bit -/

theorem crcBitStep_eq_xor (x : Word) : crcBitStep x = (x >>> 1) ^^^ (if x.getLsbD 0 then 0xEDB88320 else 0) := by
  unfold crcBitStep
  split
  · rfl
  · exact BitVec.xor_zero.symm

theorem crcBitStep_xor (x y : Word) : crcBitStep (x ^^^ y) = crcBitStep x ^^^ crcBitStep y := by
  have hpoly : (if (x ^^^ y).getLsbD 0 then 0xEDB88320 else 0) =
      (if x.getLsbD 0 then 0xEDB88320#32 else 0) ^^^ (if y.getLsbD 0 then 0xEDB88320 else 0) := by
    rw [BitVec.getLsbD_xor]
    cases x.getLsbD 0 <;> cases y.getLsbD 0 <;> rfl
  rw [crcBitStep_eq_xor, crcBitStep_eq_xor x, crcBitStep_eq_xor y, BitVec.ushiftRight_xor_distrib, hpoly]
  ac_rfl

theorem iterate_crcBitStep_xor (k : Nat) (x y : Word) :
    crcBitStep^[k] (x ^^^ y) = crcBitStep^[k] x ^^^ crcBitStep^[k] y := by
  induction k generalizing x y with
  | zero => rfl
  | succ k ih => rw [Function.iterate_succ_apply, crcBitStep_xor, ih]; rfl

/-- Steps that shift out zeros only shift. -/
theorem iterate_crcBitStep_of_low_zeros (k : Nat) (x : Word) (h : ∀ i < k, x.getLsbD i = false) :
    crcBitStep^[k] x = x >>> k := by
  induction k with
  | zero => simp
  | succ k ih =>
    rw [Function.iterate_succ_apply', ih fun i hi => h i (by omega), crcBitStep, BitVec.getLsbD_ushiftRight,
      h _ (by omega), if_neg Bool.false_ne_true, BitVec.shiftRight_add]

/-! ## The step of one byte -/

set_option maxRecDepth 10000 in
/-- The ROM holds the eight steps of each byte (R170). -/
theorem crcTable_eq : crcTable = (List.range 256).map fun k => crcBitStep^[8] (BitVec.ofNat 32 k) := by decide

theorem crcTableAt_toNat (v : Byte) : crcTableAt v.toNat = crcBitStep^[8] (v.setWidth 32) := by
  have hv : v.toNat < 256 := v.isLt
  rw [crcTableAt, crcTable_eq, List.getD_eq_getElem?_getD, List.getElem?_map, List.getElem?_range hv,
    Option.map_some, Option.getD_some, BitVec.ofNat_toNat]

theorem toNat_and_lowByte (v : Word) : (v &&& 0xFF).toNat = (v.setWidth 8).toNat := by
  rw [BitVec.toNat_and, BitVec.toNat_setWidth]
  exact Nat.and_two_pow_sub_one_eq_mod v.toNat 8

theorem setWidth_byte_ushiftRight (b : Byte) : b.setWidth 32 >>> 8 = 0#32 := by
  apply BitVec.eq_of_toNat_eq
  rw [BitVec.toNat_ushiftRight, BitVec.toNat_setWidth_of_le (by decide)]
  exact Nat.shiftRight_eq_zero _ _ b.isLt

/-- Of a value, the low byte picks the entry of the table and the rest is shifted down. -/
theorem iterate_crcBitStep_eq_table (v : Word) :
    crcBitStep^[8] v = v >>> 8 ^^^ crcTableAt (v &&& 0xFF).toNat := by
  have hsplit : v = (v ^^^ (v.setWidth 8).setWidth 32) ^^^ (v.setWidth 8).setWidth 32 := by
    rw [BitVec.xor_assoc, BitVec.xor_self, BitVec.xor_zero]
  have hhigh : ∀ i < 8, (v ^^^ (v.setWidth 8).setWidth 32).getLsbD i = false := by
    intro i hi
    simp [hi, show i < 32 by omega]
  conv_lhs => rw [hsplit]
  rw [iterate_crcBitStep_xor, iterate_crcBitStep_of_low_zeros 8 _ hhigh, BitVec.ushiftRight_xor_distrib,
    setWidth_byte_ushiftRight, BitVec.xor_zero, ← crcTableAt_toNat, toNat_and_lowByte]

theorem crcStep_eq_iterate (crc : Word) (b : Byte) : crcStep crc b = crcBitStep^[8] (crc ^^^ b.setWidth 32) := by
  rw [iterate_crcBitStep_eq_table, BitVec.ushiftRight_xor_distrib, setWidth_byte_ushiftRight, BitVec.xor_zero]
  rfl

/-- Settles O23, by the linearity of the step of one bit. -/
theorem crcTableStepIsEightBitSteps : Obligations.CrcTableStepIsEightBitSteps := by
  unfold Obligations.CrcTableStepIsEightBitSteps
  exact crcStep_eq_iterate

end Sys2Proof.Machine

/-!
PROOFS. The compression cores (spec/42_md5.md, 43_sha1.md, 44_sha256.md) line by line of their rules: the words of a
block, the schedules, one round after the other; and the constants of SHA-256.
-/

namespace Sys2Proof.Machine

/-! ## The words of a block (R37) -/

theorem getD_wordsLe (B : List Byte) {j : Nat} (hj : j < 16) :
    (wordsLe B).getD j 0 =
      B.getD (4 * j + 3) 0 ++ B.getD (4 * j + 2) 0 ++ B.getD (4 * j + 1) 0 ++ B.getD (4 * j) 0 := by
  rw [wordsLe, List.getD_eq_getElem?_getD, List.getElem?_map, List.getElem?_range hj]
  rfl

theorem getD_wordsBe (B : List Byte) {j : Nat} (hj : j < 16) :
    (wordsBe B).getD j 0 =
      B.getD (4 * j) 0 ++ B.getD (4 * j + 1) 0 ++ B.getD (4 * j + 2) 0 ++ B.getD (4 * j + 3) 0 := by
  rw [wordsBe, List.getD_eq_getElem?_getD, List.getElem?_map, List.getElem?_range hj]
  rfl

theorem length_wordsBe (B : List Byte) : (wordsBe B).length = 16 := by rw [wordsBe, List.length_map, List.length_range]

/-! ## A schedule grown word by word, newest first -/

/-- A list of words with the next one put in front. -/
def grow (next : List Word → Word) (words : List Word) : List Word := next words :: words

/-- The schedule that begins with `start` and has `k` words more. -/
def schedule (next : List Word → Word) (start : List Word) (k : Nat) : List Word :=
  ((grow next)^[k] start.reverse).reverse

section
variable (next : List Word → Word) (start : List Word)

theorem schedule_succ (k : Nat) :
    schedule next start (k + 1) = schedule next start k ++ [next (schedule next start k).reverse] := by
  rw [schedule, Function.iterate_succ_apply', grow, List.reverse_cons, schedule, List.reverse_reverse]

theorem length_schedule (k : Nat) : (schedule next start k).length = start.length + k := by
  induction k with
  | zero => exact List.length_reverse.trans List.length_reverse
  | succ k ih => rw [schedule_succ, List.length_append, ih]; rfl

/-- A longer schedule begins with the shorter one. -/
theorem schedule_begins_with {k K : Nat} (h : k ≤ K) : schedule next start k <+: schedule next start K := by
  induction K, h using Nat.le_induction with
  | base => exact List.prefix_rfl
  | succ K _ ih => exact ih.trans (schedule_succ next start K ▸ List.prefix_append ..)

theorem getD_schedule_of_le {k K j : Nat} (h : k ≤ K) (hj : j < start.length + k) :
    (schedule next start K).getD j 0 = (schedule next start k).getD j 0 := by
  obtain ⟨newer, hnewer⟩ := schedule_begins_with next start h
  rw [← hnewer, List.getD_append _ _ _ _ (by rwa [length_schedule])]

theorem getD_schedule_start {K j : Nat} (hj : j < start.length) :
    (schedule next start K).getD j 0 = start.getD j 0 := by
  rw [getD_schedule_of_le next start (Nat.zero_le K) hj]
  exact congrArg (fun l => l.getD j 0) start.reverse_reverse

/-- Word `i` is the next one of a list that holds word `i - 1 - p` at place `p`. -/
theorem getD_schedule_next {K i : Nat} (hi : start.length ≤ i) (hiK : i < start.length + K) :
    ∃ words, (schedule next start K).getD i 0 = next words ∧
      ∀ p < i, words.getD p 0 = (schedule next start K).getD (i - (p + 1)) 0 := by
  have hlen : (schedule next start (i - start.length)).length = i := by rw [length_schedule]; omega
  refine ⟨(schedule next start (i - start.length)).reverse, ?_, fun p hp => ?_⟩
  · rw [getD_schedule_of_le next start (k := i - start.length + 1) (by omega) (by omega), schedule_succ,
      List.getD_append_right _ _ _ _ hlen.le, hlen, Nat.sub_self]
    rfl
  · rw [getD_schedule_of_le next start (k := i - start.length) (by omega) (by omega),
      List.getD_reverse _ (by omega), hlen, show i - (p + 1) = i - 1 - p by omega]

end

/-! ## MD5 (R111, R112) -/

section
variable (m : List Word) (v : Md5Vars) {i : Nat}

theorem md5Rounds_succ (k : Nat) : md5Rounds m v (k + 1) = md5Round m (md5Rounds m v k) k := by
  simp [md5Rounds, List.range_succ]

/-- The new `b` of a round, by the function, the word and the count of its group. -/
theorem md5Rounds_succ_b {x : Word} {g n : Nat}
    (hf : fMd5 i (md5Rounds m v i).b (md5Rounds m v i).c (md5Rounds m v i).d = x) (hg : gMd5 i = g) (hs : sMd5 i = n) :
    (md5Rounds m v (i + 1)).b =
      (md5Rounds m v i).b + ((md5Rounds m v i).a + x + kMd5Table.getD i 0 + m.getD g 0).rotateLeft n := by
  rw [md5Rounds_succ, ← hf, ← hg, ← hs, ← rotl_eq_rotateLeft]
  rfl

end

theorem sMd5_group0 : ∀ i < 16, sMd5 i = [7, 12, 17, 22].getD (i % 4) 0 := by decide
theorem sMd5_group1 : ∀ i < 32, 16 ≤ i → sMd5 i = [5, 9, 14, 20].getD (i % 4) 0 := by decide
theorem sMd5_group2 : ∀ i < 48, 32 ≤ i → sMd5 i = [4, 11, 16, 23].getD (i % 4) 0 := by decide
theorem sMd5_group3 : ∀ i < 64, 48 ≤ i → sMd5 i = [6, 10, 15, 21].getD (i % 4) 0 := by decide

/-- Settles O29, with the words of the block and the variables after each round. -/
theorem md5CompressionFollowsItsRounds : Obligations.Md5CompressionFollowsItsRounds := by
  unfold Obligations.Md5CompressionFollowsItsRounds
  intro h B
  refine ⟨fun j => (wordsLe B).getD j 0, fun i => (md5Rounds (wordsLe B) (md5Start h) i).a,
    fun i => (md5Rounds (wordsLe B) (md5Start h) i).b, fun i => (md5Rounds (wordsLe B) (md5Start h) i).c,
    fun i => (md5Rounds (wordsLe B) (md5Start h) i).d, fun j => getD_wordsLe B, ⟨rfl, rfl, rfl, rfl⟩, fun i _ => ?_,
    fun i hi => ?_, fun i hlo hhi => ?_, fun i hlo hhi => ?_, fun i hlo hhi => ?_, rfl⟩
  · simp only [md5Rounds_succ]
    exact ⟨rfl, rfl, rfl⟩
  · exact md5Rounds_succ_b _ _ (if_pos hi) (if_pos hi) (sMd5_group0 i hi)
  · have h16 : ¬ i < 16 := by omega
    exact md5Rounds_succ_b _ _ ((if_neg h16).trans (if_pos hhi)) ((if_neg h16).trans (if_pos hhi))
      (sMd5_group1 i hhi hlo)
  · have h16 : ¬ i < 16 := by omega
    have h32 : ¬ i < 32 := by omega
    exact md5Rounds_succ_b _ _ (by simp only [fMd5, h16, h32, hhi, if_true, if_false])
      (by simp only [gMd5, h16, h32, hhi, if_true, if_false]) (sMd5_group2 i hhi hlo)
  · have h16 : ¬ i < 16 := by omega
    have h32 : ¬ i < 32 := by omega
    have h48 : ¬ i < 48 := by omega
    exact md5Rounds_succ_b _ _ (by simp only [fMd5, h16, h32, h48, if_false])
      (by simp only [gMd5, h16, h32, h48, if_false]) (sMd5_group3 i hhi hlo)

/-! ## SHA-1 (R131, R132) -/

/-- The word of R132 after the words so far, newest first. -/
def sha1Next (w : List Word) : Word := rotl (w.getD 2 0 ^^^ w.getD 7 0 ^^^ w.getD 13 0 ^^^ w.getD 15 0) 1

theorem sha1Extend_eq_iterate (k : Nat) (w : List Word) : sha1Extend k w = (grow sha1Next)^[k] w := by
  induction k generalizing w with
  | zero => rfl
  | succ k ih => exact ih _

theorem sha1Schedule_eq (B : List Byte) : sha1Schedule B = schedule sha1Next (wordsBe B) 64 :=
  congrArg List.reverse (sha1Extend_eq_iterate 64 _)

theorem getD_sha1Schedule_start (B : List Byte) {j : Nat} (hj : j < 16) :
    (sha1Schedule B).getD j 0 = (wordsBe B).getD j 0 := by
  rw [sha1Schedule_eq, getD_schedule_start _ _ (by rwa [length_wordsBe])]

theorem getD_sha1Schedule (B : List Byte) {i : Nat} (hlo : 16 ≤ i) (hhi : i < 80) :
    (sha1Schedule B).getD i 0 = ((sha1Schedule B).getD (i - 3) 0 ^^^ (sha1Schedule B).getD (i - 8) 0 ^^^
      (sha1Schedule B).getD (i - 14) 0 ^^^ (sha1Schedule B).getD (i - 16) 0).rotateLeft 1 := by
  have hlen := length_wordsBe B
  rw [sha1Schedule_eq]
  obtain ⟨words, hword, hplaces⟩ := getD_schedule_next sha1Next (wordsBe B) (K := 64) (i := i) (by omega) (by omega)
  rw [hword, sha1Next, rotl_eq_rotateLeft, hplaces 2 (by omega), hplaces 7 (by omega), hplaces 13 (by omega),
    hplaces 15 (by omega)]

section
variable (w : List Word) (v : Sha1Vars) {i : Nat}

theorem sha1Rounds_succ (k : Nat) : sha1Rounds w v (k + 1) = sha1Round w (sha1Rounds w v k) k := by
  simp [sha1Rounds, List.range_succ]

/-- The new `a` of a round, by the function and the constant of its range. -/
theorem sha1Rounds_succ_a {x k : Word}
    (hf : fSha1 i (sha1Rounds w v i).b (sha1Rounds w v i).c (sha1Rounds w v i).d = x) (hk : kSha1 i = k) :
    (sha1Rounds w v (i + 1)).a =
      (sha1Rounds w v i).a.rotateLeft 5 + x + (sha1Rounds w v i).e + k + w.getD i 0 := by
  rw [sha1Rounds_succ, ← hf, ← hk, ← rotl_eq_rotateLeft]
  rfl

end

/-- Settles O30, with the schedule and the variables after each round. -/
theorem sha1CompressionFollowsItsRounds : Obligations.Sha1CompressionFollowsItsRounds := by
  unfold Obligations.Sha1CompressionFollowsItsRounds
  intro h B
  refine ⟨fun j => (sha1Schedule B).getD j 0, fun i => (sha1Rounds (sha1Schedule B) (sha1Start h) i).a,
    fun i => (sha1Rounds (sha1Schedule B) (sha1Start h) i).b, fun i => (sha1Rounds (sha1Schedule B) (sha1Start h) i).c,
    fun i => (sha1Rounds (sha1Schedule B) (sha1Start h) i).d, fun i => (sha1Rounds (sha1Schedule B) (sha1Start h) i).e,
    fun j hj => (getD_sha1Schedule_start B hj).trans (getD_wordsBe B hj), fun i => getD_sha1Schedule B,
    ⟨rfl, rfl, rfl, rfl, rfl⟩, fun i _ => ?_, fun i hi => ?_, fun i hlo hhi => ?_, fun i hlo hhi => ?_,
    fun i hlo hhi => ?_, rfl⟩
  · simp only [sha1Rounds_succ, ← rotl_eq_rotateLeft]
    exact ⟨rfl, rfl, rfl, rfl⟩
  · exact sha1Rounds_succ_a _ _ (if_pos hi) (if_pos hi)
  · have h20 : ¬ i < 20 := by omega
    exact sha1Rounds_succ_a _ _ ((if_neg h20).trans (if_pos hhi)) ((if_neg h20).trans (if_pos hhi))
  · have h20 : ¬ i < 20 := by omega
    have h40 : ¬ i < 40 := by omega
    exact sha1Rounds_succ_a _ _ (by simp only [fSha1, h20, h40, hhi, if_true, if_false])
      (by simp only [kSha1, h20, h40, hhi, if_true, if_false])
  · have h20 : ¬ i < 20 := by omega
    have h40 : ¬ i < 40 := by omega
    have h60 : ¬ i < 60 := by omega
    exact sha1Rounds_succ_a _ _ (by simp only [fSha1, h20, h40, h60, if_false])
      (by simp only [kSha1, h20, h40, h60, if_false])

/-! ## SHA-256 (R151, R152) -/

/-- The word of R152 after the words so far, newest first. -/
def sha256Next (w : List Word) : Word := w.getD 15 0 + ssig0 (w.getD 14 0) + w.getD 6 0 + ssig1 (w.getD 1 0)

theorem sha256Extend_eq_iterate (k : Nat) (w : List Word) : sha256Extend k w = (grow sha256Next)^[k] w := by
  induction k generalizing w with
  | zero => rfl
  | succ k ih => exact ih _

theorem sha256Schedule_eq (B : List Byte) : sha256Schedule B = schedule sha256Next (wordsBe B) 48 :=
  congrArg List.reverse (sha256Extend_eq_iterate 48 _)

theorem getD_sha256Schedule_start (B : List Byte) {j : Nat} (hj : j < 16) :
    (sha256Schedule B).getD j 0 = (wordsBe B).getD j 0 := by
  rw [sha256Schedule_eq, getD_schedule_start _ _ (by rwa [length_wordsBe])]

theorem getD_sha256Schedule (B : List Byte) {i : Nat} (hlo : 16 ≤ i) (hhi : i < 64) :
    (sha256Schedule B).getD i 0 = (sha256Schedule B).getD (i - 16) 0 + ssig0 ((sha256Schedule B).getD (i - 15) 0) +
      (sha256Schedule B).getD (i - 7) 0 + ssig1 ((sha256Schedule B).getD (i - 2) 0) := by
  have hlen := length_wordsBe B
  rw [sha256Schedule_eq]
  obtain ⟨words, hword, hplaces⟩ := getD_schedule_next sha256Next (wordsBe B) (K := 48) (i := i) (by omega) (by omega)
  rw [hword, sha256Next, hplaces 15 (by omega), hplaces 14 (by omega), hplaces 6 (by omega), hplaces 1 (by omega)]

theorem sha256Rounds_succ (w : List Word) (v : Sha256Vars) (k : Nat) :
    sha256Rounds w v (k + 1) = sha256Round w (sha256Rounds w v k) k := by
  simp [sha256Rounds, List.range_succ]

/-- Settles O31, with the schedule and the variables after each round. -/
theorem sha256CompressionFollowsItsRounds : Obligations.Sha256CompressionFollowsItsRounds := by
  unfold Obligations.Sha256CompressionFollowsItsRounds
  intro h B
  simp only [← rotr_eq_rotateRight]
  refine ⟨fun j => (sha256Schedule B).getD j 0, fun i => (sha256Rounds (sha256Schedule B) (sha256Start h) i).a,
    fun i => (sha256Rounds (sha256Schedule B) (sha256Start h) i).b,
    fun i => (sha256Rounds (sha256Schedule B) (sha256Start h) i).c,
    fun i => (sha256Rounds (sha256Schedule B) (sha256Start h) i).d,
    fun i => (sha256Rounds (sha256Schedule B) (sha256Start h) i).e,
    fun i => (sha256Rounds (sha256Schedule B) (sha256Start h) i).f,
    fun i => (sha256Rounds (sha256Schedule B) (sha256Start h) i).g,
    fun i => (sha256Rounds (sha256Schedule B) (sha256Start h) i).h,
    fun i => sha256T0 (sha256Rounds (sha256Schedule B) (sha256Start h) i),
    fun i => sha256T1 (sha256Schedule B) (sha256Rounds (sha256Schedule B) (sha256Start h) i) i,
    fun j hj => (getD_sha256Schedule_start B hj).trans (getD_wordsBe B hj), fun i => getD_sha256Schedule B,
    ⟨rfl, rfl, rfl, rfl, rfl, rfl, rfl, rfl⟩, fun i _ => ?_, rfl⟩
  simp only [sha256Rounds_succ]
  exact ⟨rfl, rfl, rfl, rfl, rfl, rfl, rfl, rfl, rfl, rfl⟩

/-! ## The constants of SHA-256 (R150, R153) -/

/-- The whole part of the `k`-th root of a number below `8 ^ k`. -/
def rootFloor (k p : Nat) : Nat := Nat.findGreatest (fun q => q ^ k ≤ p) 7

/-- A root with 32 fraction bits, from its whole part and the constant that holds the fraction. -/
def rootWith (k p : Nat) (fraction : Word) : Nat := rootFloor k p * 2 ^ 32 + fraction.toNat

theorem toNat_eq_rootWith_mod (k p : Nat) (fraction : Word) : fraction.toNat = rootWith k p fraction % 2 ^ 32 := by
  have hlt : fraction.toNat < 2 ^ 32 := fraction.isLt
  rw [rootWith]
  omega

theorem kSha256Table_brackets_cube_roots :
    ∀ i < 64, rootWith 3 (firstPrimes.getD i 0) (kSha256Table.getD i 0) ^ 3 ≤ firstPrimes.getD i 0 * 2 ^ 96 ∧
      firstPrimes.getD i 0 * 2 ^ 96 < (rootWith 3 (firstPrimes.getD i 0) (kSha256Table.getD i 0) + 1) ^ 3 := by
  decide

theorem initSha256_brackets_square_roots :
    ∀ i : Fin 8, rootWith 2 (firstPrimes.getD i.val 0) initSha256[i.val] ^ 2 ≤ firstPrimes.getD i.val 0 * 2 ^ 64 ∧
      firstPrimes.getD i.val 0 * 2 ^ 64 < (rootWith 2 (firstPrimes.getD i.val 0) initSha256[i.val] + 1) ^ 2 := by
  decide

/-- Settles O32: with its whole part in front, each constant brackets the root of its prime. -/
theorem sha256ConstantsAreRootsOfPrimes : Obligations.Sha256ConstantsAreRootsOfPrimes := by
  unfold Obligations.Sha256ConstantsAreRootsOfPrimes
  refine ⟨fun i hi => ?_, fun i => ?_⟩
  · obtain ⟨hle, hlt⟩ := kSha256Table_brackets_cube_roots i hi
    exact ⟨_, hle, hlt, toNat_eq_rootWith_mod ..⟩
  · obtain ⟨hle, hlt⟩ := initSha256_brackets_square_roots i
    exact ⟨_, hle, hlt, toNat_eq_rootWith_mod ..⟩

end Sys2Proof.Machine

/-!
PROOFS. Whole messages (spec/41_block_buffer.md, 45_crc32.md section 3): what a run of RESET, PROCESS for each byte,
FINALIZE and RDDIGEST for each index answers and leaves, for every context; a hash context holds the whole blocks of the
message compressed and the rest buffered; the hash of the padded message.
-/

namespace Sys2Proof.Machine

/-! ## Runs and their responses -/

theorem runCommands_append {is : List Instr} (js : List Instr) {s t : State} (h : runCommands is s = .next t) :
    runCommands (is ++ js) s = runCommands js t := by
  induction is generalizing s with
  | nil => rw [Host.Outcome.next.inj h]; rfl
  | cons i is ih =>
    obtain ⟨u, -, hexec, -⟩ := exec_answers i s
    rw [runCommands_cons is hexec] at h
    rw [List.cons_append, runCommands_cons _ hexec, ih h]

/-- The run from `s` ends in `t`, under the same parameter, and returns these responses. -/
structure RunsTo (is : List Instr) (s t : State) (rs : List Response) : Prop where
  run : runCommands is s = .next t
  cfg : t.cfg = s.cfg
  responses : t.port.responses = s.port.responses ++ rs

theorem RunsTo.nil (s : State) : RunsTo [] s s [] := ⟨rfl, rfl, (List.append_nil _).symm⟩

theorem RunsTo.append {is js : List Instr} {s t u : State} {rs qs : List Response} (h : RunsTo is s t rs)
    (h' : RunsTo js t u qs) : RunsTo (is ++ js) s u (rs ++ qs) :=
  ⟨(runCommands_append js h.run).trans h'.run, h'.cfg.trans h.cfg, by
    rw [h'.responses, h.responses, List.append_assoc]⟩

theorem runsTo_reset (s : State) (alg : Alg) :
    ∃ t, RunsTo [resetOf alg] s t [okResponse] ∧ t.ctx.get alg = Contexts.reset.get alg := by
  refine ⟨_, ⟨runCommands_cons [] (exec_resetOf s alg), ?_, ?_⟩, ?_⟩ <;> simp [okResponse, Err.code]

/-- PROCESS and FINALIZE of an open context. -/
theorem runsTo_of_finishWrite {i : Instr} {s : State} {alg : Alg} {c : ContextOf alg}
    (hexec : exec i s = finishWrite (fun s c => s.withContext alg c) (unlessDone (isDone alg (s.ctx.get alg)) c) s)
    (hopen : isDone alg (s.ctx.get alg) = false) : ∃ t, RunsTo [i] s t [okResponse] ∧ t.ctx.get alg = c := by
  rw [unlessDone_of_not_done _ hopen] at hexec
  refine ⟨_, ⟨runCommands_cons [] hexec, ?_, ?_⟩, ?_⟩ <;> simp [okResponse, Err.code]

/-- What PROCESS.alg of every byte makes of an open context. -/
def absorbedAll (cfg : Config) (msg : List Byte) (alg : Alg) (c : ContextOf alg) : ContextOf alg :=
  msg.foldl (fun c b => absorbed cfg b alg c) c

section
variable {alg : Alg}

theorem isDone_absorbedAll (cfg : Config) (msg : List Byte) (c : ContextOf alg) :
    isDone alg (absorbedAll cfg msg alg c) = isDone alg c := by
  induction msg generalizing c with
  | nil => rfl
  | cons b msg ih => exact (ih _).trans (isDone_absorbed cfg b c)

theorem runsTo_process (msg : List Byte) {s : State} (hopen : isDone alg (s.ctx.get alg) = false) :
    ∃ t, RunsTo (msg.map (processOf alg)) s t (List.replicate msg.length okResponse) ∧
      t.ctx.get alg = absorbedAll s.cfg msg alg (s.ctx.get alg) := by
  induction msg generalizing s with
  | nil => exact ⟨s, .nil s, rfl⟩
  | cons b msg ih =>
    obtain ⟨t, hfirst, ht⟩ := runsTo_of_finishWrite (exec_processOf s alg b) hopen
    obtain ⟨u, hrest, hu⟩ := ih (s := t) (by rw [ht, isDone_absorbed, hopen])
    refine ⟨u, hfirst.append hrest, ?_⟩
    rw [hu, ht, hfirst.cfg]
    rfl

theorem runsTo_reset_process (s : State) (alg : Alg) (msg : List Byte) :
    ∃ t, RunsTo (resetOf alg :: msg.map (processOf alg)) s t (List.replicate (msg.length + 1) okResponse) ∧
      t.ctx.get alg = absorbedAll s.cfg msg alg (Contexts.reset.get alg) := by
  obtain ⟨t, hreset, ht⟩ := runsTo_reset s alg
  obtain ⟨u, hprocess, hu⟩ := runsTo_process msg (s := t) (alg := alg) (by rw [ht, isDone_reset])
  exact ⟨u, hreset.append hprocess, by rw [hu, ht, hreset.cfg]⟩

theorem runsTo_calculate (s : State) (alg : Alg) (msg : List Byte) :
    ∃ t, RunsTo (expand (.calculate alg msg)) s t (List.replicate (msg.length + 2) okResponse) ∧
      t.ctx.get alg = finished s.cfg alg (absorbedAll s.cfg msg alg (Contexts.reset.get alg)) := by
  obtain ⟨t, habsorb, ht⟩ := runsTo_reset_process s alg msg
  obtain ⟨u, hfinalize, hu⟩ := runsTo_of_finishWrite (exec_finalizeOf t alg)
    (by rw [ht, isDone_absorbedAll, isDone_reset])
  have hall := habsorb.append hfinalize
  rw [← List.replicate_succ'] at hall
  exact ⟨u, hall, by rw [hu, ht, habsorb.cfg]⟩

theorem runsTo_rddigest {s : State} (idxs : List Nat) (byte : Nat → Byte)
    (hread : ∀ idx ∈ idxs,
      readDigest s.cfg (BitVec.ofNat 8 idx) alg (s.ctx.get alg) = .ok ((byte idx).setWidth 64)) :
    ∃ t, RunsTo (idxs.map fun idx => rddigestOf alg (BitVec.ofNat 8 idx)) s t
      (idxs.map fun idx => byteResponse (byte idx)) := by
  induction idxs generalizing s with
  | nil => exact ⟨s, .nil s⟩
  | cons idx idxs ih =>
    have hexec := exec_rddigestOf s alg (BitVec.ofNat 8 idx)
    rw [hread idx List.mem_cons_self, finishRead_eq] at hexec
    have hfirst : RunsTo [rddigestOf alg (BitVec.ofNat 8 idx)] s _ [byteResponse (byte idx)] :=
      ⟨runCommands_cons [] hexec, rfl, rfl⟩
    obtain ⟨t, hrest⟩ := ih (s := s.returning (byteResponse (byte idx))) fun j hj => hread j (List.mem_cons_of_mem _ hj)
    exact ⟨t, hfirst.append hrest⟩

theorem map_getD_range (l : List Byte) : ((List.range l.length).map fun k => l.getD k 0) = l := by
  apply List.ext_getElem (by simp)
  intro k hk hk'
  simp [hk']

/-- `calculate.alg` and `digest.alg` return the bytes that RDDIGEST reads from the finalised context. -/
theorem calculate_digest_returns (s : State) (alg : Alg) (msg digest : List Byte)
    (hlen : digest.length = digestSize alg)
    (hread : ∀ idx < digestSize alg,
      readDigest s.cfg (BitVec.ofNat 8 idx) alg
          (finished s.cfg alg (absorbedAll s.cfg msg alg (Contexts.reset.get alg))) =
        .ok ((digest.getD idx 0).setWidth 64)) :
    ∃ t, runCommands (expand (.calculate alg msg) ++ expand (.digest alg)) s = .next t ∧
      t.port.responses = s.port.responses ++ List.replicate (msg.length + 2) okResponse ++ digest.map byteResponse := by
  obtain ⟨t, hcalculate, ht⟩ := runsTo_calculate s alg msg
  obtain ⟨u, hdigest⟩ := runsTo_rddigest (s := t) (alg := alg) (List.range (digestSize alg))
    (fun idx => digest.getD idx 0) fun idx hidx => by rw [ht, hcalculate.cfg]; exact hread idx (List.mem_range.mp hidx)
  have hbytes : ((List.range (digestSize alg)).map fun idx => byteResponse (digest.getD idx 0)) =
      digest.map byteResponse := by
    rw [← hlen, ← Function.comp_def byteResponse, ← List.map_map, map_getD_range]
  rw [hbytes] at hdigest
  have hall := hcalculate.append hdigest
  exact ⟨u, hall.run, hall.responses.trans (List.append_assoc ..).symm⟩

end

/-! ## The CRC of a message -/

theorem absorbedAll_crc32 (cfg : Config) (msg : List Byte) (c : ContextOf .crc32) :
    absorbedAll cfg msg .crc32 c =
      { crc := msg.foldl crcStep (Crc32Context.crc c), done := Crc32Context.done c : Crc32Context } := by
  induction msg generalizing c with
  | nil => rfl
  | cons b msg ih => exact ih _

theorem readCrcDigest_eq {c : Crc32Context} (hdone : c.done = true) {idx : Nat} (hidx : idx < 4) :
    readCrcDigest (BitVec.ofNat 8 idx) c = .ok (((bytesBe32 c.crc).toList.getD idx 0).setWidth 64) := by
  rw [readCrcDigest, if_pos hdone]
  interval_cases idx <;> rfl

/-- Settles O24, by the run of the commands and the table step as eight bit steps. -/
theorem calculateCrc32ReturnsTheCrc : Obligations.CalculateCrc32ReturnsTheCrc := by
  unfold Obligations.CalculateCrc32ReturnsTheCrc
  intro s msg
  apply calculate_digest_returns s .crc32 msg _ rfl
  intro idx hidx
  simp only [← crcStep_eq_iterate]
  rw [absorbedAll_crc32]
  exact readCrcDigest_eq (c := { crc := msg.foldl crcStep crcInit ^^^ crcXorOut, done := true }) rfl hidx

/-! ## A message in blocks -/

theorem blocksOf_append {whole : List Byte} (h : whole.length % 64 = 0) (rest : List Byte) :
    blocksOf (whole ++ rest) = blocksOf whole ++ blocksOf rest := by
  have hcount : (whole ++ rest).length / 64 = whole.length / 64 + rest.length / 64 := by
    rw [List.length_append]
    omega
  rw [blocksOf, hcount, List.range_add, List.map_append, List.map_map]
  congr 1
  · apply List.map_congr_left
    intro k hk
    have hk : k < whole.length / 64 := List.mem_range.mp hk
    rw [List.drop_append_of_le_length (by omega), List.take_append_of_le_length (by rw [List.length_drop]; omega)]
  · apply List.map_congr_left
    intro k _
    have hdrop : 64 * (whole.length / 64 + k) = whole.length + 64 * k := by omega
    rw [Function.comp_apply, hdrop, List.drop_append, List.drop_eq_nil_of_le (by omega), Nat.add_sub_cancel_left,
      List.nil_append]

theorem blocksOf_block {block : List Byte} (h : block.length = 64) : blocksOf block = [block] := by
  have htake : block.take 64 = block := by rw [← h, List.take_length]
  simp [blocksOf, h, htake]

/-! ## What a hash context holds of a message -/

section
variable {n : Nat} {e : Engine n} {whole rest : List Byte} {c : HashContext n}

/-- An open context that holds the message `whole ++ rest`: the whole blocks are compressed, the rest is buffered. -/
structure Holds (e : Engine n) (whole rest : List Byte) (c : HashContext n) : Prop where
  isOpen : c.done = false
  aligned : whole.length % 64 = 0
  h : c.h = (blocksOf whole).foldl e.compress e.init
  total : c.total = BitVec.ofNat 64 whole.length
  tail : c.tail.toNat = rest.length
  buffered : Memory.readBytes c.buf 0 rest.length = rest
  emptied : rest = [] → c.buf = []

theorem holds_reset (e : Engine n) : Holds e [] [] (HashContext.reset e.init) :=
  ⟨rfl, rfl, rfl, rfl, rfl, rfl, fun _ => rfl⟩

theorem Holds.absorb_of_lt (h : Holds e whole rest c) (b : Byte) (hlt : rest.length < 63) :
    Holds e whole (rest ++ [b]) (absorb e b c) := by
  have hne : c.tail ≠ 63 := fun heq => Nat.ne_of_lt hlt (h.tail.symm.trans (congrArg BitVec.toNat heq))
  rw [absorb_of_tail_ne e b c hne]
  refine ⟨h.isOpen, h.aligned, h.h, h.total, ?_, ?_, fun hnil => absurd hnil (by simp)⟩
  · rw [BitVec.toNat_add, h.tail, List.length_append]
    exact Nat.mod_eq_of_lt (Nat.succ_lt_succ hlt)
  · have hread := Memory.readBytes_writeBytes c.buf rest.length [b]
    rw [h.buffered] at hread
    rw [h.tail, List.length_append]
    exact hread

theorem Holds.absorb_of_eq (h : Holds e whole rest c) (b : Byte) (heq : rest.length = 63) :
    Holds e (whole ++ (rest ++ [b])) [] (absorb e b c) := by
  have hblock : (rest ++ [b]).length = 64 := by rw [List.length_append, heq]; rfl
  have hread := Memory.readBytes_writeBytes c.buf rest.length [b]
  rw [h.buffered, heq] at hread
  rw [absorb_of_tail_eq e b c (BitVec.eq_of_toNat_eq (h.tail.trans heq))]
  refine ⟨h.isOpen, ?_, ?_, ?_, rfl, rfl, fun _ => rfl⟩
  · rw [List.length_append, Nat.add_mod, h.aligned, hblock]
  · rw [blocksOf_append h.aligned, blocksOf_block hblock, List.foldl_append, ← h.h]
    exact congrArg (e.compress c.h) hread
  · rw [List.length_append, hblock, BitVec.ofNat_add, ← h.total]
    rfl

/-- From the reset, a context holds the message it has absorbed. -/
theorem exists_holds (e : Engine n) (msg : List Byte) :
    ∃ whole rest, msg = whole ++ rest ∧
      Holds e whole rest (msg.foldl (fun c b => absorb e b c) (HashContext.reset e.init)) := by
  induction msg using List.reverseRecOn with
  | nil => exact ⟨[], [], rfl, holds_reset e⟩
  | append_singleton msg b ih =>
    obtain ⟨whole, rest, hmsg, h⟩ := ih
    have hlt : rest.length < 64 := h.tail ▸ BitVec.isLt _
    rw [List.foldl_append, List.foldl_cons, List.foldl_nil]
    by_cases h63 : rest.length = 63
    · exact ⟨whole ++ (rest ++ [b]), [], by rw [hmsg]; simp, h.absorb_of_eq b h63⟩
    · exact ⟨whole, rest ++ [b], by rw [hmsg, List.append_assoc], h.absorb_of_lt b (by omega)⟩

theorem Holds.total_add_tail (h : Holds e whole rest c) :
    c.total + c.tail.setWidth 64 = BitVec.ofNat 64 (whole ++ rest).length := by
  rw [List.length_append, BitVec.ofNat_add, h.total, ← h.tail, BitVec.ofNat_toNat]

theorem Holds.length_mod (h : Holds e whole rest c) : (whole ++ rest).length % 64 = rest.length := by
  have hlt : rest.length < 64 := h.tail ▸ BitVec.isLt _
  have haligned := h.aligned
  rw [List.length_append]
  omega

/-! ## The hash of a message -/

theorem Holds.lengthField_eq (h : Holds e whole rest c) (lenBytes : DWord → List Byte) :
    lengthField lenBytes c = lenBytes (BitVec.ofNat 64 ((whole ++ rest).length * 8)) := by
  rw [← lenBytes_messageBits, messageBits, messageBytes, h.total_add_tail, BitVec.ofNat_mul]
  rfl

theorem Holds.padMessage_eq (h : Holds e whole rest c) (lenBytes : DWord → List Byte) :
    padMessage lenBytes (whole ++ rest) =
      whole ++ (rest ++ [0x80] ++ List.replicate ((119 - rest.length) % 64) 0 ++ lengthField lenBytes c) := by
  rw [padMessage, h.length_mod, h.lengthField_eq]
  simp only [List.append_assoc]

/-- The working digest after FINALIZE is the hash of the message padded in one piece: one block more when TAIL is at most
55, two from 56 up (R95). -/
theorem Holds.finish_h (h : Holds e whole rest c) (hlen : ∀ l, (e.lenBytes l).length = 8) :
    (finish e c).h = hashMessage e (whole ++ rest) := by
  obtain ⟨-, -, -, hone, htwo⟩ := finalizes_finish e hlen c
  have hfield : (lengthField e.lenBytes c).length = 8 := hlen _
  have hlt : rest.length < 64 := h.tail ▸ BitVec.isLt _
  rw [h.tail, h.buffered] at hone htwo
  rw [hashMessage, h.padMessage_eq, blocksOf_append h.aligned, List.foldl_append, ← h.h]
  by_cases hle : rest.length ≤ 55
  · obtain ⟨block, hblock, hh, -⟩ := hone hle
    have hzeros : (119 - rest.length) % 64 = 55 - rest.length := by omega
    have hsize : block.length = 64 := by
      simp only [hblock, List.length_append, List.length_singleton, List.length_replicate, hfield]
      omega
    rw [hh, hzeros, ← hblock, blocksOf_block hsize]
    rfl
  · obtain ⟨first, last, hfirst, hlast, hh, -⟩ := htwo (by omega)
    have hzeros : (119 - rest.length) % 64 = 63 - rest.length + 56 := by omega
    have hfirstSize : first.length = 64 := by
      simp only [hfirst, List.length_append, List.length_singleton, List.length_replicate]
      omega
    have hlastSize : last.length = 64 := by simp [hlast, hfield]
    have hsplit : rest ++ [0x80] ++ List.replicate (63 - rest.length + 56) 0 ++ lengthField e.lenBytes c =
        first ++ last := by
      simp [hfirst, hlast, List.replicate_add]
    rw [hh, hzeros, hsplit, blocksOf_append (by rw [hfirstSize]), blocksOf_block hfirstSize, blocksOf_block hlastSize]
    rfl

end

/-! ## The bytes of a digest -/

theorem length_digestBytes {n : Nat} (wordBytes : Word → Vector Byte 4) (h : Vector Word n) :
    (digestBytes wordBytes h).length = 4 * n := by
  simp [digestBytes, List.length_flatMap, Nat.mul_comm]

/-- Byte `j` of word `k`, in words laid out one after the other. -/
theorem getD_flatMap_wordBytes (wordBytes : Word → Vector Byte 4) (words : List Word) {k : Nat} (hk : k < words.length)
    (j : Fin 4) :
    (words.flatMap fun w => (wordBytes w).toList).getD (4 * k + j.val) 0 = (wordBytes words[k])[j] := by
  induction words generalizing k with
  | nil => cases hk
  | cons w words ih =>
    rw [List.flatMap_cons]
    cases k with
    | zero =>
      rw [List.getD_append _ _ _ _ (by simp)]
      simp
    | succ k =>
      rw [List.getD_append_right _ _ _ _ (by rw [Vector.length_toList]; omega), Vector.length_toList,
        show 4 * (k + 1) + j.val - 4 = 4 * k + j.val by omega, ih (by simpa using hk)]
      rfl

section
variable {n : Nat} {e : Engine n}

theorem engineReadDigest_eq {c : HashContext n} (hn : n ≤ 64) (hdone : c.done = true) {idx : Nat} (hidx : idx < 4 * n) :
    engineReadDigest e (BitVec.ofNat 8 idx) c = .ok (((digestBytes e.wordBytes c.h).getD idx 0).setWidth 64) := by
  have himm : (BitVec.ofNat 8 idx).toNat = idx := Nat.mod_eq_of_lt (by omega)
  have hbyte := getD_flatMap_wordBytes e.wordBytes c.h.toList (k := idx / 4)
    (by rw [Vector.length_toList]; omega) ⟨idx % 4, by omega⟩
  rw [Nat.div_add_mod] at hbyte
  rw [engineReadDigest_of_lt e _ c hdone (by rwa [himm]), digestBytes, hbyte]
  simp [himm, zext64]

/-- What RDDIGEST reads after a message. -/
theorem engineReadDigest_finish (hn : n ≤ 64) (hlen : ∀ l, (e.lenBytes l).length = 8) (msg : List Byte) {idx : Nat}
    (hidx : idx < 4 * n) :
    engineReadDigest e (BitVec.ofNat 8 idx)
        (finish e (msg.foldl (fun c b => absorb e b c) (HashContext.reset e.init))) =
      .ok (((digestBytes e.wordBytes (hashMessage e msg)).getD idx 0).setWidth 64) := by
  obtain ⟨whole, rest, hmsg, h⟩ := exists_holds e msg
  rw [engineReadDigest_eq hn (finish_done ..) hidx, h.finish_h hlen, ← hmsg]

/-- The context after 64 bytes: the block is compressed and nothing is buffered. -/
theorem absorbed_block {msg : List Byte} (hmsg : msg.length = 64) :
    msg.foldl (fun c b => absorb e b c) (HashContext.reset e.init) =
      { h := e.compress e.init msg, buf := [], tail := 0, total := 64, done := false } := by
  obtain ⟨whole, rest, rfl, h⟩ := exists_holds e msg
  have hrest : rest = [] := List.eq_nil_of_length_eq_zero (by rw [← h.length_mod, hmsg])
  subst hrest
  rw [List.append_nil] at hmsg h ⊢
  generalize whole.foldl (fun c b => absorb e b c) (HashContext.reset e.init) = c at h
  obtain ⟨isOpen, -, hh, htotal, htail, -, hbuf⟩ := h
  rw [blocksOf_block hmsg] at hh
  rw [hmsg] at htotal
  calc c = ⟨c.h, c.buf, c.tail, c.total, c.done⟩ := rfl
    _ = _ := by rw [hh, hbuf rfl, BitVec.eq_of_toNat_eq (y := 0#6) htail, htotal, isOpen]; rfl

/-- The counts of a context that has absorbed a message. -/
theorem absorbed_counts (e : Engine n) (msg : List Byte) {c : HashContext n}
    (hc : c = msg.foldl (fun c b => absorb e b c) (HashContext.reset e.init)) :
    c.done = false ∧ c.tail.toNat = msg.length % 64 ∧ c.total + c.tail.setWidth 64 = BitVec.ofNat 64 msg.length := by
  obtain ⟨whole, rest, rfl, h⟩ := exists_holds e msg
  rw [← hc] at h
  exact ⟨h.isOpen, by rw [h.length_mod, h.tail], h.total_add_tail⟩

end

/-! ## The statements -/

/-- Settles O33, by the run of the commands and the hash of what the context holds. -/
theorem calculateReturnsTheHashOfTheWholeMessage : Obligations.CalculateReturnsTheHashOfTheWholeMessage := by
  unfold Obligations.CalculateReturnsTheHashOfTheWholeMessage
  intro s msg
  exact ⟨calculate_digest_returns s .md5 msg _ (length_digestBytes ..) fun _ =>
      engineReadDigest_finish (e := md5Engine s.cfg) (by decide) (length_lenBytesMd5 s.cfg) msg,
    calculate_digest_returns s .sha1 msg _ (length_digestBytes ..) fun _ =>
      engineReadDigest_finish (e := sha1Engine) (by decide) length_bytesBe64 msg,
    calculate_digest_returns s .sha256 msg _ (length_digestBytes ..) fun _ =>
      engineReadDigest_finish (e := sha256Engine) (by decide) length_bytesBe64 msg⟩

/-- Settles O34, by what a context holds of a message of one block. -/
theorem sixtyFourthByteCompressesAtOnce : Obligations.SixtyFourthByteCompressesAtOnce := by
  unfold Obligations.SixtyFourthByteCompressesAtOnce
  intro s msg hmsg
  obtain ⟨t, hmd5, ht⟩ := runsTo_reset_process s .md5 msg
  obtain ⟨u, hsha1, hu⟩ := runsTo_reset_process s .sha1 msg
  obtain ⟨v, hsha256, hv⟩ := runsTo_reset_process s .sha256 msg
  exact ⟨⟨t, hmd5.run, ht.trans (absorbed_block (e := md5Engine s.cfg) hmsg)⟩,
    ⟨u, hsha1.run, hu.trans (absorbed_block (e := sha1Engine) hmsg)⟩,
    ⟨v, hsha256.run, hv.trans (absorbed_block (e := sha256Engine) hmsg)⟩⟩

/-- Settles O35, by what a context holds of a message. -/
theorem acceptedBytesAreTotalPlusTail : Obligations.AcceptedBytesAreTotalPlusTail := by
  unfold Obligations.AcceptedBytesAreTotalPlusTail
  intro s msg
  obtain ⟨t, hmd5, ht⟩ := runsTo_reset_process s .md5 msg
  obtain ⟨u, hsha1, hu⟩ := runsTo_reset_process s .sha1 msg
  obtain ⟨v, hsha256, hv⟩ := runsTo_reset_process s .sha256 msg
  exact ⟨⟨t, hmd5.run, absorbed_counts (md5Engine s.cfg) msg ht⟩, ⟨u, hsha1.run, absorbed_counts sha1Engine msg hu⟩,
    ⟨v, hsha256.run, absorbed_counts sha256Engine msg hv⟩⟩

end Sys2Proof.Machine
